-- ==== Sys2Proof/Word.lean ====
section
/-! DEFINITION. The word types of the MIA core: the widths that 00_scope.md R9 and 10_state.md R30 fix. -/

namespace Sys2Proof

/-- One byte: the data bus (`DATA_BITS`, R9), `step`, `flags` and every latch (R30). -/
abbrev Byte := BitVec 8

/-- A 24-bit cursor address (`ADDR_BITS`, R9): `current`, `default`, `limit`. -/
abbrev Addr := BitVec 24

/-- A 16-bit word: IRQ cause and mask (`IRQ_BITS`), the DMA count (`DMA_COUNT_BITS`), R9. -/
abbrev Half := BitVec 16

/-- The number of one of the eight windows A to H (`NUM_WINDOWS`, R9; A = 0 to H = 7, decision D8). -/
abbrev WinNo := BitVec 3

/-- The number of one of the 256 cursors (`NUM_CURSORS`, R9). -/
abbrev CurNo := BitVec 8

/-- The transaction word `T` of 30_encoding.md R110: bit 16 is `W`, bits 15:8 are `D`, bits 7:0 are `A`. -/
abbrev Txn := BitVec 17

end Sys2Proof
end

