-- ==== Sys2Proof/Syntax.lean ====
section
/-! DEFINITION. What a program makes the core do: one constructor for each row of spec/opcode_table.json, and the
events that the machine's agents and its environment offer it (00_scope.md R8). -/

namespace Sys2Proof

/-- Which sub-block serves a host bus cycle (10_state.md R31). -/
inductive Phase where
  /-- ROME serves every bus cycle. -/
  | boot
  /-- The Bus Front-End serves every bus cycle. -/
  | normal
deriving DecidableEq, Repr, Inhabited

/-- The five states of the ROM emulator's sequencer (10_state.md R41). -/
inductive RomeState where
  | inactive
  | resetSequence
  | bootActive
  | kernelLoading
  | complete
deriving DecidableEq, Repr, Inhabited

/-- The serving states of 47_rom_emulator.md R324. -/
def RomeState.serving : RomeState → Bool
  | .inactive => false
  | .resetSequence => false
  | .bootActive => true
  | .kernelLoading => true
  | .complete => true

/-- One host bus cycle as it decodes, a row of spec/opcode_table.json each (30_encoding.md R122).
`w` is a window, `o` a window offset, `d` the byte written, `r` the low seven bits of a shared address,
`a` a local address and `t` a whole transaction word. -/
inductive Instr where
  | rdIdxSelect (w : WinNo)
  | wrIdxSelect (w : WinNo) (d : Byte)
  | rdDataPort (w : WinNo)
  | wrDataPort (w : WinNo) (d : Byte)
  | rdCfgFieldSelect (w : WinNo)
  | wrCfgFieldSelect (w : WinNo) (d : Byte)
  | rdCfgData (w : WinNo)
  | wrCfgData (w : WinNo) (d : Byte)
  | rdCommand (w : WinNo)
  | cmdNop (w : WinNo)
  | cmdResetIndex (w : WinNo)
  | cmdSetDefaultToAddr (w : WinNo)
  | cmdSetLimitToAddr (w : WinNo)
  | cmdUnknown (w : WinNo) (d : Byte)
  | rdWinReserved (w : WinNo) (o : BitVec 4)
  | wrWinReserved (w : WinNo) (o : BitVec 4) (d : Byte)
  | rdDeviceStatus
  | wrDeviceStatus (d : Byte)
  | rdIrqCauseLow
  | wrIrqCauseLow (d : Byte)
  | rdIrqCauseHigh
  | wrIrqCauseHigh (d : Byte)
  | rdIrqMaskLow
  | wrIrqMaskLow (d : Byte)
  | rdIrqMaskHigh
  | wrIrqMaskHigh (d : Byte)
  | rdIrqEnable
  | wrIrqEnable (d : Byte)
  | rdSharedCommand
  | scmdNop
  | scmdResetAllIdx
  | scmdFactoryResetAllIdx
  | scmdClearIrq
  | scmdCopyBlock
  | scmdSystemReset
  | scmdUnknown (d : Byte)
  | rdSharedReserved (r : BitVec 7)
  | wrSharedReserved (r : BitVec 7) (d : Byte)
  | romRdVectorLo
  | romRdVectorHi
  | romRdKstatus
  | romRdKdata
  | romRdBootloader (a : Byte)
  | romRdOther (a : Byte)
  | romWr (a : Byte) (d : Byte)
  | romCycleNotServing (t : Txn)
deriving DecidableEq, Repr

/-- The lines the host drives during one bus cycle (40_bus_frontend.md R140; polarities decision D34): the three
active-low lines, the local address and the byte on the data bus. -/
structure BusPins where
  csN : Bool
  oeN : Bool
  weN : Bool
  a : Byte
  d : Byte
deriving DecidableEq, Repr, Inhabited

/-- One step of one agent (00_scope.md R8), or one action of the world outside the core. -/
inductive Event where
  /-- Power is applied: power-on reset (70_reset_and_hazards.md R380). -/
  | powerOn
  /-- The host runs one bus cycle; `overrun` is the draw of the overrun environment (40_bus_frontend.md R146). -/
  | busCycle (pins : BusPins) (overrun : Bool)
  /-- Core 1 takes one entry from the ICQ (45_dma_icq.md R264). -/
  | dispatch
  /-- The DMA engine moves the byte at offset `k` (R268). -/
  | transfer (k : Nat)
  /-- The DMA completion callback (R270). -/
  | complete
  /-- An external collaborator raises cause bits 15:4; bits 3:0 it cannot raise (46_irq_controller.md R296). -/
  | extRaise (b : BitVec 12)
  /-- ROME's `StartBoot` (47_rom_emulator.md R322). -/
  | startBoot
  /-- ROME's `ReleaseReset` (R323). -/
  | releaseReset
  /-- ROME's `HandOff` (R328). -/
  | handOff
deriving DecidableEq, Repr, Inhabited

end Sys2Proof
end

