-- ==== Sys2Proof/Config.lean ====
section
/-! DEFINITION. What is fixed for a machine and what is free: the parameters of 00_scope.md R10, which a model takes as
arguments, the constants of R9, and the free values (the spec's "draws", R14), opaque constants with no body. -/

namespace Sys2Proof

/-- A record of the cursor file (10_state.md R32). `dflt` is the spec's field `default`. -/
structure Cursor where
  current : Addr
  dflt : Addr
  limit : Addr
  step : Byte
  flags : Byte
deriving DecidableEq, Repr, Inhabited

/-- The bit positions of `DEVICE_STATUS`: the parameter `STATUS_LAYOUT` (10_state.md R36, decision D9). -/
structure StatusLayout where
  ready : Fin 8
  irqPending : Fin 8
  memoryError : Fin 8
  indexOverflow : Fin 8
  dmaActive : Fin 8
deriving DecidableEq, Repr

/-- The events, other than the two resets, that an implementation's `MEMERR_CLEAR_EVENTS` (decision D11) may name.
Power-on reset and `SYSTEM_RESET` clear the bit whatever the parameter says (10_state.md R44, 44_commands.md R245). -/
inductive MemerrClearEvent where
  | clearIrq
  | causeBitZeroCleared
  | deviceStatusWrite
  | factoryReset
deriving DecidableEq, Repr

/-- The parameters the source leaves open (00_scope.md R10), and `HOST_MIA_BASE` (20_memory.md R82). -/
structure Params where
  icqCapacity : Nat
  statusLayout : StatusLayout
  memerrClearEvents : List MemerrClearEvent
  irqMaskReset : Half
  irqEnableReset : Bool
  paletteBase : Addr
  /-- `DEFAULT_TABLE`. Its rows 32 to 47 stand for the palette banks, which `PALETTE_BASE` places
  (`Machine.Params.cursorTable`). -/
  defaultTable : Vector Cursor 256
  romeVecLo : Byte
  romeVecHi : Byte
  blBase : Byte
  bootloaderImage : List Byte
  bootloaderEntry : Half
  kstatusAddr : Byte
  kdataAddr : Byte
  kernelImage : List Byte
  hostNopByte : Byte
  hostMiaBase : Half
deriving DecidableEq, Repr

namespace Config

/-- `ARENA_SIZE` (R9): 256 KiB. -/
def arenaSize : Nat := 0x40000

/-- The byte a host latches where the spec says "a draw": an overrun read (40_bus_frontend.md R146), a kernel-data read
past the end (47_rom_emulator.md R334), a read outside the serving states (R336). Applied to `State.draws`. -/
opaque busDraw : Nat → Byte

/-- The choice of 45_dma_icq.md R268: whether a host write to a source byte not yet transferred reaches the
destination. Applied to `State.draws`. -/
opaque sourceRace : Nat → Bool

/-- The byte that the arena holds at an offset after the `n`-th reset (10_state.md R44, decision D16). -/
opaque arenaDraw : Nat → Nat → Byte

/-- The level of `out.host_reset` between the `n`-th reset and `StartBoot` (10_state.md R44, decision D41). -/
opaque hostResetDraw : Nat → Bool

/-- What the agents and the world outside do when the model is given no event: any of them may step next
(00_scope.md R8, 20_memory.md R90). Applied to `State.draws`. -/
opaque environment : Nat → Event

/-- The length of `BOOTLOADER_IMAGE` in the reference configuration; at most 0xE0 bytes (47_rom_emulator.md R321). -/
opaque bootloaderLength : Fin 0xE1

/-- The bytes of `BOOTLOADER_IMAGE`, which the spec calls opaque (R10, decision D24). -/
opaque bootloaderByte : Nat → Byte

/-- The length of `KERNEL_IMAGE`, 0 to 65535 (R10). -/
opaque kernelLength : Half

/-- The bytes of `KERNEL_IMAGE` (R10, decision D24). -/
opaque kernelByte : Nat → Byte

/-- `HOST_MIA_BASE`, which the spec leaves open with no reference value (20_memory.md R82). -/
opaque hostMiaBase : Half

end Config

end Sys2Proof
end

