-- ==== Sys2Proof/Machine/Records.lean ====
section
/-! DEFINITION. The records that the machine's state is made of (10_state.md R34 to R42). -/

namespace Sys2Proof.Machine

/-- One window's two latches (10_state.md R34). -/
structure Window where
  idx : CurNo
  sel : Byte
deriving DecidableEq, Repr

/-- The stored status bits (R36). -/
structure Status where
  memerr : Bool
  idxovf : Bool
  dmaActive : Bool
deriving DecidableEq, Repr

/-- The IRQ controller (R37). -/
structure Irq where
  cause : Half
  mask : Half
  enable : Bool
  line : Bool
deriving DecidableEq, Repr

/-- A copy command: the shared DMA-config record (R38) and the ICQ's records (R39) have the same three fields. -/
structure CopyCmd where
  srcIdx : CurNo
  dstIdx : CurNo
  count : Half
deriving DecidableEq, Repr

/-- The copy that may be in flight (R39). `done` is the set of offsets already transferred, a strictly rising list. -/
structure Dma where
  active : Bool
  src : Addr
  dst : Addr
  count : Half
  done : List Nat
  snap : List Byte
deriving DecidableEq, Repr

/-- The ROM emulator (R41). -/
structure Rome where
  rst : RomeState
  started : Bool
  kptr : Half
deriving DecidableEq, Repr

/-- The outputs besides the data bus and the IRQ pin (R42). -/
structure Outputs where
  hostReset : Bool
  clkFast : Bool
  bank : Bool
deriving DecidableEq, Repr

end Sys2Proof.Machine
end

