-- ==== Sys2Proof/Machine/CursorTable.lean ====
section
/-! DEFINITION. The default cursor table (10_state.md R40, decision D15): the reference table, the table that a
configuration's resets install, and what the source fixes of any table. -/

namespace Sys2Proof.Machine

/-- A record of the default table: "In every record, `current` equals `default`" (R40). -/
def defaultRecord (dflt limit : Nat) (step flags : Byte) : Cursor :=
  { current := BitVec.ofNat 24 dflt, dflt := BitVec.ofNat 24 dflt, limit := BitVec.ofNat 24 limit
    step := step, flags := flags }

/-- The record of palette bank `k`: 16 bytes at `PALETTE_BASE` + 0x10·k, wrapping in its bank (R40, conflict C5). -/
def paletteRecord (paletteBase : Addr) (k : Nat) : Cursor :=
  defaultRecord (paletteBase.toNat + 0x10 * k) (paletteBase.toNat + 0x10 * k + 0x10) 1 0x05

/-- Record `i` of the reference `DEFAULT_TABLE` (R40), for a value of `PALETTE_BASE`. -/
def defaultCursor (paletteBase : Addr) (i : Nat) : Cursor :=
  if i = 0 then defaultRecord 0x000800 0x004800 1 0x01
  else if 16 ≤ i ∧ i ≤ 23 then
    defaultRecord (0x4800 + 0x1800 * (i - 16)) (0x4800 + 0x1800 * (i - 16) + 0x1800) 1 0x05
  else if 32 ≤ i ∧ i ≤ 47 then paletteRecord paletteBase (i - 32)
  else if 48 ≤ i ∧ i ≤ 51 then
    defaultRecord (0x16900 + 1000 * (i - 48)) (0x16900 + 1000 * (i - 48) + 1000) 1 0x05
  else if 52 ≤ i ∧ i ≤ 55 then
    defaultRecord (0x178A0 + 1000 * (i - 52)) (0x178A0 + 1000 * (i - 52) + 1000) 1 0x05
  else if i = 56 then defaultRecord 0x018840 0x018C40 4 0x05
  else if i = 57 then defaultRecord 0x018C40 0x018C41 1 0x04
  else if i = 64 then defaultRecord 0x03C000 0x03C040 1 0x05
  else if i = 65 then defaultRecord 0x03C040 0x03C041 1 0x04
  else if i = 80 ∨ i = 81 ∨ i = 83 ∨ i = 84 then defaultRecord (0x03C000 + i) (0x03C000 + i + 1) 1 0x04
  else if 128 ≤ i then defaultRecord 0x013800 0x03C000 1 0x01
  else defaultRecord 0x000000 0x000000 0 0x00

/-- The reference `DEFAULT_TABLE`: the 256 records (R40). -/
def defaultTable (paletteBase : Addr) : Vector Cursor 256 :=
  ⟨((List.range 256).map (defaultCursor paletteBase)).toArray, by simp⟩

/-- The record that a reset installs in cursor `i`, where the parameter `DEFAULT_TABLE` holds `c`: rows 32 to 47 are the
palette banks at the parameter `PALETTE_BASE`, which a build sets by itself (R40, conflict C5), the others are the
table's. -/
def Params.cursorRecord (p : Params) (i : Nat) (c : Cursor) : Cursor :=
  if 32 ≤ i ∧ i ≤ 47 then paletteRecord p.paletteBase (i - 32) else c

/-- The cursor file that a reset of the configuration installs (R40, R44). -/
def Params.cursorTable (p : Params) : Vector Cursor 256 :=
  ⟨(p.defaultTable.toList.zipIdx.map fun ci => Params.cursorRecord p ci.2 ci.1).toArray, by simp⟩

/-- A record with the step and the flags that the source gives its row. -/
def stepsBy (c : Cursor) (step flags : Byte) : Bool := decide (c.step = step) && decide (c.flags = flags)

/-- A region of `n` bytes, `limit` = `default` + `n`. -/
def spans (c : Cursor) (n : Nat) : Bool := decide (c.limit.toNat = c.dflt.toNat + n)

/-- What the source fixes of record `i` of any table: `current` equals `default` everywhere, and of each row that R40
marks S or S+D the fields that decision D15 does not complete (which fields those are: notes/assumptions/10.md). The
other rows are open. -/
def sourceFixes (paletteBase : Addr) (i : Nat) (c : Cursor) : Bool :=
  decide (c.current = c.dflt) &&
    if i = 0 then decide (c.dflt = 0x000800) && stepsBy c 1 0x01
    else if (16 ≤ i ∧ i ≤ 23) ∨ (32 ≤ i ∧ i ≤ 47) then decide (c = defaultCursor paletteBase i)
    else if 48 ≤ i ∧ i ≤ 55 then spans c 1000 && stepsBy c 1 0x05
    else if i = 56 then spans c 1024 && stepsBy c 4 0x05
    else if i = 64 then spans c 64 && stepsBy c 1 0x05
    else if i = 57 ∨ i = 65 ∨ i = 80 ∨ i = 81 ∨ i = 83 ∨ i = 84 then stepsBy c 1 0x04
    else if 128 ≤ i then decide (c.dflt = 0x013800) && stepsBy c 1 0x01
    else true

/-- The table of a configuration keeps what the source fixes (00_scope.md R10: "entries of §4.4 fixed, others open"). -/
def tableKeepsSource (p : Params) : Bool :=
  (Params.cursorTable p).toList.zipIdx.all fun ci => sourceFixes p.paletteBase ci.2 ci.1

end Sys2Proof.Machine
end

