-- ==== Sys2Proof/Machine/ResetValues.lean ====
section
/-! DEFINITION. The reference configuration (the "reference value" column of 00_scope.md R10), and the reset values of
10_state.md R44 that are not parameters. -/

namespace Sys2Proof.Machine

/-- The reference `STATUS_LAYOUT` (10_state.md R36, decision D9). -/
def referenceStatusLayout : StatusLayout :=
  { ready := 0, irqPending := 1, memoryError := 2, indexOverflow := 3, dmaActive := 4 }

/-- The bootloader image, opaque bytes (R10, decision D24). -/
def referenceBootloader : List Byte :=
  (List.range Config.bootloaderLength.val).map Config.bootloaderByte

/-- The kernel image, opaque bytes (R10, decisions D24 and D27). -/
def referenceKernel : List Byte :=
  (List.range Config.kernelLength.toNat).map Config.kernelByte

/-- Every window selects cursor 0 with selector 0 (R44, decision D36). -/
def resetWindows : Vector Window 8 := ⟨#[⟨0, 0⟩, ⟨0, 0⟩, ⟨0, 0⟩, ⟨0, 0⟩, ⟨0, 0⟩, ⟨0, 0⟩, ⟨0, 0⟩, ⟨0, 0⟩], rfl⟩

/-- `st` after reset (R44, decisions D11 and D12). -/
def resetStatus : Status := { memerr := false, idxovf := false, dmaActive := false }

/-- The IRQ controller after reset, the values of `irq_init` (R44, 46_irq_controller.md R311, decision D13). -/
def resetIrq (p : Params) : Irq :=
  { cause := 0x0000, mask := p.irqMaskReset, enable := p.irqEnableReset, line := false }

/-- `dmacfg` after reset (R44, decision D36). -/
def resetDmacfg : CopyCmd := { srcIdx := 0, dstIdx := 0, count := 0 }

/-- No copy in flight (R44, decision D23). The spec gives no value for the other fields: notes/assumptions/3.md. -/
def resetDma : Dma := { active := false, src := 0, dst := 0, count := 0, done := [], snap := [] }

/-- ROME after reset (R44, decisions D24 and D29). -/
def resetRome : Rome := { rst := .inactive, started := false, kptr := 0 }

/-- The outputs after the `epoch`-th reset: `host_reset` is unspecified until `StartBoot`, a draw (R44, decision D41). -/
def resetOutputs (epoch : Nat) : Outputs :=
  { hostReset := Config.hostResetDraw epoch, clkFast := false, bank := false }

end Sys2Proof.Machine

namespace Sys2Proof

/-- The reference configuration (00_scope.md R10). -/
def Params.reference : Params :=
  { icqCapacity := 8
    statusLayout := Machine.referenceStatusLayout
    memerrClearEvents := []
    irqMaskReset := 0xFFFF
    irqEnableReset := true
    paletteBase := 0x16800
    defaultTable := Machine.defaultTable 0x16800
    romeVecLo := 0xFC
    romeVecHi := 0xFD
    blBase := 0x00
    bootloaderImage := Machine.referenceBootloader
    bootloaderEntry := 0xFF00
    kstatusAddr := 0xE0
    kdataAddr := 0xE1
    kernelImage := Machine.referenceKernel
    hostNopByte := 0xEA
    hostMiaBase := Config.hostMiaBase }

end Sys2Proof
end

