-- ==== Sys2Proof/Machine/RomeMap.lean ====
section
/-! DEFINITION. The address map of the ROM emulator in phase BOOT (47_rom_emulator.md R321) and the checks that the spec
puts on a configuration (00_scope.md R10, R321). -/

namespace Sys2Proof.Machine

/-- The regions of the ROME map (R321). -/
inductive RomeRegion where
  | vectorLo
  | vectorHi
  | kstatus
  | kdata
  | bootloader
  | filler
deriving DecidableEq, Repr

/-- `BL_BASE ≤ a < BL_BASE + len(BOOTLOADER_IMAGE)` (R321). -/
def inBootloader (p : Params) (a : Byte) : Bool :=
  decide (p.blBase.toNat ≤ a.toNat) && decide (a.toNat < p.blBase.toNat + p.bootloaderImage.length)

/-- The region of a local address in phase BOOT (R321). The order matters only where regions overlap, and such a
configuration is refused (`Params.valid`). -/
def romeRegion (p : Params) (a : Byte) : RomeRegion :=
  if a = p.romeVecLo then .vectorLo
  else if a = p.romeVecHi then .vectorHi
  else if a = p.kstatusAddr then .kstatus
  else if a = p.kdataAddr then .kdata
  else if inBootloader p a then .bootloader
  else .filler

/-- "The regions must not overlap" (R321): the four single addresses differ, none lies in the bootloader region, and
the region ends inside the 256-byte window. -/
def romeRegionsDisjoint (p : Params) : Bool :=
  decide ([p.romeVecLo, p.romeVecHi, p.kstatusAddr, p.kdataAddr].Nodup)
    && !inBootloader p p.romeVecLo && !inBootloader p p.romeVecHi
    && !inBootloader p p.kstatusAddr && !inBootloader p p.kdataAddr
    && decide (p.blBase.toNat + p.bootloaderImage.length ≤ 256)

/-- The five status bits stand at five places (10_state.md R36). -/
def statusLayoutDistinct (l : StatusLayout) : Bool :=
  decide ([l.ready, l.irqPending, l.memoryError, l.indexOverflow, l.dmaActive].Nodup)

/-- The configurations that the spec admits: `ICQ_CAPACITY ≥ 8`, a kernel of at most 65535 bytes (00_scope.md R10),
disjoint ROME regions (47_rom_emulator.md R321), five places for the status bits (10_state.md R36), and a cursor table
that keeps what the source fixes of it (00_scope.md R10, 10_state.md R40). -/
def Params.valid (p : Params) : Bool :=
  decide (8 ≤ p.icqCapacity) && decide (p.kernelImage.length ≤ 65535)
    && romeRegionsDisjoint p && statusLayoutDistinct p.statusLayout && tableKeepsSource p

end Sys2Proof.Machine
end

