-- ==== Sys2Proof/WellFormed.lean ====
section
/-! DEFINITION. Which instructions are well formed: the `constraint` fields of spec/opcode_table.json
(30_encoding.md R121). -/

namespace Sys2Proof

/-- The shared addresses 0xF0 to 0xF5 and 0xFF by their low seven bits (30_encoding.md R113). -/
def sharedRecognised (r : BitVec 7) : Bool :=
  decide (r = 0x70) || decide (r = 0x71) || decide (r = 0x72) || decide (r = 0x73) || decide (r = 0x74)
    || decide (r = 0x75) || decide (r = 0x7F)

/-- The `constraint` of an instruction's row, for the configuration `p`; `true` where the row has none.
The condition on `rome.rst` is not one on the instruction: see `Instr.decodesIn`. -/
def Instr.wf (p : Params) : Instr → Bool
  | .rdIdxSelect _ => true
  | .wrIdxSelect _ _ => true
  | .rdDataPort _ => true
  | .wrDataPort _ _ => true
  | .rdCfgFieldSelect _ => true
  | .wrCfgFieldSelect _ _ => true
  | .rdCfgData _ => true
  | .wrCfgData _ _ => true
  | .rdCommand _ => true
  | .cmdNop _ => true
  | .cmdResetIndex _ => true
  | .cmdSetDefaultToAddr _ => true
  | .cmdSetLimitToAddr _ => true
  | .cmdUnknown _ d => decide (4 ≤ d.toNat)
  | .rdWinReserved _ o => decide (5 ≤ o.toNat)
  | .wrWinReserved _ o _ => decide (5 ≤ o.toNat)
  | .rdDeviceStatus => true
  | .wrDeviceStatus _ => true
  | .rdIrqCauseLow => true
  | .wrIrqCauseLow _ => true
  | .rdIrqCauseHigh => true
  | .wrIrqCauseHigh _ => true
  | .rdIrqMaskLow => true
  | .wrIrqMaskLow _ => true
  | .rdIrqMaskHigh => true
  | .wrIrqMaskHigh _ => true
  | .rdIrqEnable => true
  | .wrIrqEnable _ => true
  | .rdSharedCommand => true
  | .scmdNop => true
  | .scmdResetAllIdx => true
  | .scmdFactoryResetAllIdx => true
  | .scmdClearIrq => true
  | .scmdCopyBlock => true
  | .scmdSystemReset => true
  | .scmdUnknown d => decide (6 ≤ d.toNat)
  | .rdSharedReserved r => !sharedRecognised r
  | .wrSharedReserved r _ => !sharedRecognised r
  | .romRdVectorLo => true
  | .romRdVectorHi => true
  | .romRdKstatus => true
  | .romRdKdata => true
  | .romRdBootloader a => decide (Machine.romeRegion p a = .bootloader)
  | .romRdOther a => decide (Machine.romeRegion p a = .filler)
  | .romWr _ _ => true
  | .romCycleNotServing _ => true

/-- The phase and the ROME states in which an instruction's row decodes: the `phase` field of the table and the
condition of 47_rom_emulator.md R324. -/
def Instr.decodesIn (phase : Phase) (rst : RomeState) : Instr → Bool
  | .romRdVectorLo | .romRdVectorHi | .romRdKstatus | .romRdKdata | .romRdBootloader _ | .romRdOther _
  | .romWr _ _ => decide (phase = .boot) && rst.serving
  | .romCycleNotServing _ => decide (phase = .boot) && !rst.serving
  | .rdIdxSelect _ | .wrIdxSelect _ _ | .rdDataPort _ | .wrDataPort _ _ | .rdCfgFieldSelect _
  | .wrCfgFieldSelect _ _ | .rdCfgData _ | .wrCfgData _ _ | .rdCommand _ | .cmdNop _ | .cmdResetIndex _
  | .cmdSetDefaultToAddr _ | .cmdSetLimitToAddr _ | .cmdUnknown _ _ | .rdWinReserved _ _
  | .wrWinReserved _ _ _ | .rdDeviceStatus | .wrDeviceStatus _ | .rdIrqCauseLow | .wrIrqCauseLow _
  | .rdIrqCauseHigh | .wrIrqCauseHigh _ | .rdIrqMaskLow | .wrIrqMaskLow _ | .rdIrqMaskHigh
  | .wrIrqMaskHigh _ | .rdIrqEnable | .wrIrqEnable _ | .rdSharedCommand | .scmdNop | .scmdResetAllIdx
  | .scmdFactoryResetAllIdx | .scmdClearIrq | .scmdCopyBlock | .scmdSystemReset | .scmdUnknown _
  | .rdSharedReserved _ | .wrSharedReserved _ _ => decide (phase = .normal)

end Sys2Proof
end

