-- ==== Sys2Proof/Decode.lean ====
section
/-! DEFINITION. Decode and encode: from a transaction word and the phase to an instruction (30_encoding.md R111 to R121,
47_rom_emulator.md R321 and R324), and back (R110, R122); the opcode table as data. -/

namespace Sys2Proof

/-- Why the decoder rejects a number: it is no 17-bit transaction word. Every word decodes (30_encoding.md R121). -/
inductive DecodeError where
  | notATransactionWord (n : Nat)
deriving DecidableEq, Repr

/-- Bit 16 of a transaction word: a write cycle (R110). -/
def Txn.isWrite (t : Txn) : Bool := t.getLsbD 16

/-- Bits 15:8 of a transaction word: the data byte (R110). -/
def Txn.data (t : Txn) : Byte := t.extractLsb' 8 8

/-- Bits 7:0 of a transaction word: the local address (R110). -/
def Txn.addr (t : Txn) : Byte := t.extractLsb' 0 8

/-- `T = (W << 16) | (D << 8) | A` (R110). -/
def mkTxn (wr : Bool) (d a : Byte) : Txn :=
  ((BitVec.ofBool wr).setWidth 17 <<< 16) ||| (d.setWidth 17 <<< 8) ||| a.setWidth 17

/-- The local address of offset `o` of window `w` (R112). -/
def windowAddr (w : WinNo) (o : BitVec 4) : Byte := (w.setWidth 8 <<< 4) ||| o.setWidth 8

/-- The local address of the shared register whose low seven bits are `r` (R113). -/
def sharedAddr (r : BitVec 7) : Byte := 0x80 ||| r.setWidth 8

/-- The opcode byte of a write to `COMMAND[w]` (R116). -/
def decodeCommand (w : WinNo) (d : Byte) : Instr :=
  if d = 0x00 then .cmdNop w
  else if d = 0x01 then .cmdResetIndex w
  else if d = 0x02 then .cmdSetDefaultToAddr w
  else if d = 0x03 then .cmdSetLimitToAddr w
  else .cmdUnknown w d

/-- The opcode byte of a write to `SHARED_COMMAND` (R116). -/
def decodeSharedCommand (d : Byte) : Instr :=
  if d = 0x00 then .scmdNop
  else if d = 0x01 then .scmdResetAllIdx
  else if d = 0x02 then .scmdFactoryResetAllIdx
  else if d = 0x03 then .scmdClearIrq
  else if d = 0x04 then .scmdCopyBlock
  else if d = 0x05 then .scmdSystemReset
  else .scmdUnknown d

/-- The window register map (R112). -/
def decodeWindow (wr : Bool) (w : WinNo) (o : BitVec 4) (d : Byte) : Instr :=
  if o = 0x0 then (if wr then .wrIdxSelect w d else .rdIdxSelect w)
  else if o = 0x1 then (if wr then .wrDataPort w d else .rdDataPort w)
  else if o = 0x2 then (if wr then .wrCfgFieldSelect w d else .rdCfgFieldSelect w)
  else if o = 0x3 then (if wr then .wrCfgData w d else .rdCfgData w)
  else if o = 0x4 then (if wr then decodeCommand w d else .rdCommand w)
  else (if wr then .wrWinReserved w o d else .rdWinReserved w o)

/-- The shared register map, by the low seven bits of the address (R113). -/
def decodeShared (wr : Bool) (r : BitVec 7) (d : Byte) : Instr :=
  if r = 0x70 then (if wr then .wrDeviceStatus d else .rdDeviceStatus)
  else if r = 0x71 then (if wr then .wrIrqCauseLow d else .rdIrqCauseLow)
  else if r = 0x72 then (if wr then .wrIrqCauseHigh d else .rdIrqCauseHigh)
  else if r = 0x73 then (if wr then .wrIrqMaskLow d else .rdIrqMaskLow)
  else if r = 0x74 then (if wr then .wrIrqMaskHigh d else .rdIrqMaskHigh)
  else if r = 0x75 then (if wr then .wrIrqEnable d else .rdIrqEnable)
  else if r = 0x7F then (if wr then decodeSharedCommand d else .rdSharedCommand)
  else (if wr then .wrSharedReserved r d else .rdSharedReserved r)

/-- Phase NORMAL: bit 7 of the address tells shared registers from windows (R111). -/
def decodeNormal (t : Txn) : Instr :=
  if (Txn.addr t).getLsbD 7 then decodeShared (Txn.isWrite t) ((Txn.addr t).extractLsb' 0 7) (Txn.data t)
  else decodeWindow (Txn.isWrite t) ((Txn.addr t).extractLsb' 4 3) ((Txn.addr t).extractLsb' 0 4) (Txn.data t)

/-- Phase BOOT: the ROME map in a serving state (47_rom_emulator.md R321, R335), one row outside them (R324, R336). -/
def decodeBoot (p : Params) (rst : RomeState) (t : Txn) : Instr :=
  if rst.serving then
    if Txn.isWrite t then .romWr (Txn.addr t) (Txn.data t)
    else match Machine.romeRegion p (Txn.addr t) with
      | .vectorLo => .romRdVectorLo
      | .vectorHi => .romRdVectorHi
      | .kstatus => .romRdKstatus
      | .kdata => .romRdKdata
      | .bootloader => .romRdBootloader (Txn.addr t)
      | .filler => .romRdOther (Txn.addr t)
  else .romCycleNotServing t

/-- The instruction that a transaction word is, in a phase and a ROME state (R119): total, "no transaction word is
illegal" (R121). -/
def decode (p : Params) (ph : Phase) (rst : RomeState) (t : Txn) : Instr :=
  match ph with
  | .normal => decodeNormal t
  | .boot => decodeBoot p rst t

/-- The decoder on any number: one that is no 17-bit word is rejected by name. -/
def decodeNat (p : Params) (ph : Phase) (rst : RomeState) (n : Nat) : Except DecodeError Instr :=
  if n < 2 ^ 17 then .ok (decode p ph rst (BitVec.ofNat 17 n)) else .error (.notATransactionWord n)

/-- The transaction word of an instruction (R110, R112, R113, R116; 47_rom_emulator.md R321). The data bits of a read
are 0, their canonical value (R110). -/
def encode (p : Params) : Instr → Txn
  | .rdIdxSelect w => mkTxn false 0 (windowAddr w 0x0)
  | .wrIdxSelect w d => mkTxn true d (windowAddr w 0x0)
  | .rdDataPort w => mkTxn false 0 (windowAddr w 0x1)
  | .wrDataPort w d => mkTxn true d (windowAddr w 0x1)
  | .rdCfgFieldSelect w => mkTxn false 0 (windowAddr w 0x2)
  | .wrCfgFieldSelect w d => mkTxn true d (windowAddr w 0x2)
  | .rdCfgData w => mkTxn false 0 (windowAddr w 0x3)
  | .wrCfgData w d => mkTxn true d (windowAddr w 0x3)
  | .rdCommand w => mkTxn false 0 (windowAddr w 0x4)
  | .cmdNop w => mkTxn true 0x00 (windowAddr w 0x4)
  | .cmdResetIndex w => mkTxn true 0x01 (windowAddr w 0x4)
  | .cmdSetDefaultToAddr w => mkTxn true 0x02 (windowAddr w 0x4)
  | .cmdSetLimitToAddr w => mkTxn true 0x03 (windowAddr w 0x4)
  | .cmdUnknown w d => mkTxn true d (windowAddr w 0x4)
  | .rdWinReserved w o => mkTxn false 0 (windowAddr w o)
  | .wrWinReserved w o d => mkTxn true d (windowAddr w o)
  | .rdDeviceStatus => mkTxn false 0 0xF0
  | .wrDeviceStatus d => mkTxn true d 0xF0
  | .rdIrqCauseLow => mkTxn false 0 0xF1
  | .wrIrqCauseLow d => mkTxn true d 0xF1
  | .rdIrqCauseHigh => mkTxn false 0 0xF2
  | .wrIrqCauseHigh d => mkTxn true d 0xF2
  | .rdIrqMaskLow => mkTxn false 0 0xF3
  | .wrIrqMaskLow d => mkTxn true d 0xF3
  | .rdIrqMaskHigh => mkTxn false 0 0xF4
  | .wrIrqMaskHigh d => mkTxn true d 0xF4
  | .rdIrqEnable => mkTxn false 0 0xF5
  | .wrIrqEnable d => mkTxn true d 0xF5
  | .rdSharedCommand => mkTxn false 0 0xFF
  | .scmdNop => mkTxn true 0x00 0xFF
  | .scmdResetAllIdx => mkTxn true 0x01 0xFF
  | .scmdFactoryResetAllIdx => mkTxn true 0x02 0xFF
  | .scmdClearIrq => mkTxn true 0x03 0xFF
  | .scmdCopyBlock => mkTxn true 0x04 0xFF
  | .scmdSystemReset => mkTxn true 0x05 0xFF
  | .scmdUnknown d => mkTxn true d 0xFF
  | .rdSharedReserved r => mkTxn false 0 (sharedAddr r)
  | .wrSharedReserved r d => mkTxn true d (sharedAddr r)
  | .romRdVectorLo => mkTxn false 0 p.romeVecLo
  | .romRdVectorHi => mkTxn false 0 p.romeVecHi
  | .romRdKstatus => mkTxn false 0 p.kstatusAddr
  | .romRdKdata => mkTxn false 0 p.kdataAddr
  | .romRdBootloader a => mkTxn false 0 a
  | .romRdOther a => mkTxn false 0 a
  | .romWr a d => mkTxn true d a
  | .romCycleNotServing t => t

/-- The row name of an instruction in spec/opcode_table.json. -/
def Instr.mnemonic : Instr → String
  | .rdIdxSelect _ => "RD_IDX_SELECT"
  | .wrIdxSelect _ _ => "WR_IDX_SELECT"
  | .rdDataPort _ => "RD_DATA_PORT"
  | .wrDataPort _ _ => "WR_DATA_PORT"
  | .rdCfgFieldSelect _ => "RD_CFG_FIELD_SELECT"
  | .wrCfgFieldSelect _ _ => "WR_CFG_FIELD_SELECT"
  | .rdCfgData _ => "RD_CFG_DATA"
  | .wrCfgData _ _ => "WR_CFG_DATA"
  | .rdCommand _ => "RD_COMMAND"
  | .cmdNop _ => "CMD_NOP"
  | .cmdResetIndex _ => "CMD_RESET_INDEX"
  | .cmdSetDefaultToAddr _ => "CMD_SET_DEFAULT_TO_ADDR"
  | .cmdSetLimitToAddr _ => "CMD_SET_LIMIT_TO_ADDR"
  | .cmdUnknown _ _ => "CMD_UNKNOWN"
  | .rdWinReserved _ _ => "RD_WIN_RESERVED"
  | .wrWinReserved _ _ _ => "WR_WIN_RESERVED"
  | .rdDeviceStatus => "RD_DEVICE_STATUS"
  | .wrDeviceStatus _ => "WR_DEVICE_STATUS"
  | .rdIrqCauseLow => "RD_IRQ_CAUSE_LOW"
  | .wrIrqCauseLow _ => "WR_IRQ_CAUSE_LOW"
  | .rdIrqCauseHigh => "RD_IRQ_CAUSE_HIGH"
  | .wrIrqCauseHigh _ => "WR_IRQ_CAUSE_HIGH"
  | .rdIrqMaskLow => "RD_IRQ_MASK_LOW"
  | .wrIrqMaskLow _ => "WR_IRQ_MASK_LOW"
  | .rdIrqMaskHigh => "RD_IRQ_MASK_HIGH"
  | .wrIrqMaskHigh _ => "WR_IRQ_MASK_HIGH"
  | .rdIrqEnable => "RD_IRQ_ENABLE"
  | .wrIrqEnable _ => "WR_IRQ_ENABLE"
  | .rdSharedCommand => "RD_SHARED_COMMAND"
  | .scmdNop => "SCMD_NOP"
  | .scmdResetAllIdx => "SCMD_RESET_ALL_IDX"
  | .scmdFactoryResetAllIdx => "SCMD_FACTORY_RESET_ALL_IDX"
  | .scmdClearIrq => "SCMD_CLEAR_IRQ"
  | .scmdCopyBlock => "SCMD_COPY_BLOCK"
  | .scmdSystemReset => "SCMD_SYSTEM_RESET"
  | .scmdUnknown _ => "SCMD_UNKNOWN"
  | .rdSharedReserved _ => "RD_SHARED_RESERVED"
  | .wrSharedReserved _ _ => "WR_SHARED_RESERVED"
  | .romRdVectorLo => "ROM_RD_VECTOR_LO"
  | .romRdVectorHi => "ROM_RD_VECTOR_HI"
  | .romRdKstatus => "ROM_RD_KSTATUS"
  | .romRdKdata => "ROM_RD_KDATA"
  | .romRdBootloader _ => "ROM_RD_BOOTLOADER"
  | .romRdOther _ => "ROM_RD_OTHER"
  | .romWr _ _ => "ROM_WR"
  | .romCycleNotServing _ => "ROM_CYCLE_NOT_SERVING"

/-! ### The opcode table as data -/

/-- The `constraint` field of a row of spec/opcode_table.json. -/
inductive RowConstraint where
  | none
  | cmdUnknown
  | scmdUnknown
  | winReserved
  | sharedReserved
  | serving
  | bootloader
  | filler
  | notServing
deriving DecidableEq, Repr

/-- One row of spec/opcode_table.json: its mnemonic, phase, mask, match and constraint (30_encoding.md R123). -/
structure OpcodeRow where
  mnemonic : String
  phase : Phase
  mask : Txn
  pattern : Txn
  constraint : RowConstraint
deriving DecidableEq, Repr

/-- The 38 rows of spec/opcode_table.json whose phase is NORMAL. -/
def normalRows : List OpcodeRow :=
  [
   ⟨"RD_IDX_SELECT", .normal, 0x1008F, 0x00000, .none⟩,
   ⟨"WR_IDX_SELECT", .normal, 0x1008F, 0x10000, .none⟩,
   ⟨"RD_DATA_PORT", .normal, 0x1008F, 0x00001, .none⟩,
   ⟨"WR_DATA_PORT", .normal, 0x1008F, 0x10001, .none⟩,
   ⟨"RD_CFG_FIELD_SELECT", .normal, 0x1008F, 0x00002, .none⟩,
   ⟨"WR_CFG_FIELD_SELECT", .normal, 0x1008F, 0x10002, .none⟩,
   ⟨"RD_CFG_DATA", .normal, 0x1008F, 0x00003, .none⟩,
   ⟨"WR_CFG_DATA", .normal, 0x1008F, 0x10003, .none⟩,
   ⟨"RD_COMMAND", .normal, 0x1008F, 0x00004, .none⟩,
   ⟨"CMD_NOP", .normal, 0x1FF8F, 0x10004, .none⟩,
   ⟨"CMD_RESET_INDEX", .normal, 0x1FF8F, 0x10104, .none⟩,
   ⟨"CMD_SET_DEFAULT_TO_ADDR", .normal, 0x1FF8F, 0x10204, .none⟩,
   ⟨"CMD_SET_LIMIT_TO_ADDR", .normal, 0x1FF8F, 0x10304, .none⟩,
   ⟨"CMD_UNKNOWN", .normal, 0x1008F, 0x10004, .cmdUnknown⟩,
   ⟨"RD_WIN_RESERVED", .normal, 0x10080, 0x00000, .winReserved⟩,
   ⟨"WR_WIN_RESERVED", .normal, 0x10080, 0x10000, .winReserved⟩,
   ⟨"RD_DEVICE_STATUS", .normal, 0x100FF, 0x000F0, .none⟩,
   ⟨"WR_DEVICE_STATUS", .normal, 0x100FF, 0x100F0, .none⟩,
   ⟨"RD_IRQ_CAUSE_LOW", .normal, 0x100FF, 0x000F1, .none⟩,
   ⟨"WR_IRQ_CAUSE_LOW", .normal, 0x100FF, 0x100F1, .none⟩,
   ⟨"RD_IRQ_CAUSE_HIGH", .normal, 0x100FF, 0x000F2, .none⟩,
   ⟨"WR_IRQ_CAUSE_HIGH", .normal, 0x100FF, 0x100F2, .none⟩,
   ⟨"RD_IRQ_MASK_LOW", .normal, 0x100FF, 0x000F3, .none⟩,
   ⟨"WR_IRQ_MASK_LOW", .normal, 0x100FF, 0x100F3, .none⟩,
   ⟨"RD_IRQ_MASK_HIGH", .normal, 0x100FF, 0x000F4, .none⟩,
   ⟨"WR_IRQ_MASK_HIGH", .normal, 0x100FF, 0x100F4, .none⟩,
   ⟨"RD_IRQ_ENABLE", .normal, 0x100FF, 0x000F5, .none⟩,
   ⟨"WR_IRQ_ENABLE", .normal, 0x100FF, 0x100F5, .none⟩,
   ⟨"RD_SHARED_COMMAND", .normal, 0x100FF, 0x000FF, .none⟩,
   ⟨"SCMD_NOP", .normal, 0x1FFFF, 0x100FF, .none⟩,
   ⟨"SCMD_RESET_ALL_IDX", .normal, 0x1FFFF, 0x101FF, .none⟩,
   ⟨"SCMD_FACTORY_RESET_ALL_IDX", .normal, 0x1FFFF, 0x102FF, .none⟩,
   ⟨"SCMD_CLEAR_IRQ", .normal, 0x1FFFF, 0x103FF, .none⟩,
   ⟨"SCMD_COPY_BLOCK", .normal, 0x1FFFF, 0x104FF, .none⟩,
   ⟨"SCMD_SYSTEM_RESET", .normal, 0x1FFFF, 0x105FF, .none⟩,
   ⟨"SCMD_UNKNOWN", .normal, 0x100FF, 0x100FF, .scmdUnknown⟩,
   ⟨"RD_SHARED_RESERVED", .normal, 0x10080, 0x00080, .sharedReserved⟩,
   ⟨"WR_SHARED_RESERVED", .normal, 0x10080, 0x10080, .sharedReserved⟩
  ]

/-- The 8 rows of spec/opcode_table.json whose phase is BOOT. -/
def bootRows : List OpcodeRow :=
  [
   ⟨"ROM_RD_VECTOR_LO", .boot, 0x100FF, 0x000FC, .serving⟩,
   ⟨"ROM_RD_VECTOR_HI", .boot, 0x100FF, 0x000FD, .serving⟩,
   ⟨"ROM_RD_KSTATUS", .boot, 0x100FF, 0x000E0, .serving⟩,
   ⟨"ROM_RD_KDATA", .boot, 0x100FF, 0x000E1, .serving⟩,
   ⟨"ROM_RD_BOOTLOADER", .boot, 0x10000, 0x00000, .bootloader⟩,
   ⟨"ROM_RD_OTHER", .boot, 0x10000, 0x00000, .filler⟩,
   ⟨"ROM_WR", .boot, 0x10000, 0x10000, .serving⟩,
   ⟨"ROM_CYCLE_NOT_SERVING", .boot, 0x00000, 0x00000, .notServing⟩
  ]

/-- The whole opcode table, 46 rows. -/
def opcodeRows : List OpcodeRow := normalRows ++ bootRows

/-- The seven shared addresses that R113 recognises. -/
def recognisedAddrs : List Byte := [0xF0, 0xF1, 0xF2, 0xF3, 0xF4, 0xF5, 0xFF]

/-- What a row's `constraint` field asks of the word and of the ROME state (R121, 47_rom_emulator.md R324). -/
def RowConstraint.holds (p : Params) (rst : RomeState) (t : Txn) : RowConstraint → Bool
  | .none => true
  | .cmdUnknown => decide (4 ≤ (Txn.data t).toNat)
  | .scmdUnknown => decide (6 ≤ (Txn.data t).toNat)
  | .winReserved => decide (5 ≤ (Txn.addr t).toNat % 16)
  | .sharedReserved => !recognisedAddrs.contains (Txn.addr t)
  | .serving => rst.serving
  | .bootloader => rst.serving && Machine.inBootloader p (Txn.addr t)
  | .filler => rst.serving && decide (Machine.romeRegion p (Txn.addr t) = .filler)
  | .notServing => !rst.serving

/-- A row selects a word in a phase and a ROME state: `T & mask = match`, and the constraint holds (R121, R123). -/
def OpcodeRow.selects (p : Params) (ph : Phase) (rst : RomeState) (t : Txn) (row : OpcodeRow) : Bool :=
  decide (row.phase = ph) && decide (t &&& row.mask = row.pattern) && row.constraint.holds p rst t

/-- The local addresses that the BOOT rows of the table fix are those of the configuration (the reference values). -/
def tableAddressesApply (p : Params) : Prop :=
  p.romeVecLo = 0xFC ∧ p.romeVecHi = 0xFD ∧ p.kstatusAddr = 0xE0 ∧ p.kdataAddr = 0xE1

/-! ### Table words

A word of the table carries no phase, and the rows of the two phases share words: a read at 0xFC is
`ROM_RD_VECTOR_LO` in BOOT and `RD_SHARED_RESERVED` in NORMAL. `decodeTableWord` is given the word alone, so it takes
the phase of the matching row that fixes the most bits: BOOT for reads at the four single ROME addresses, NORMAL for
every other word (DESIGN CHOICE, notes/assumptions/20.md). -/

/-- Whether the matching row of the opcode table that fixes the most bits is a BOOT row. -/
def bootTableWord (t : Txn) : Bool :=
  !Txn.isWrite t && [(0xFC : Byte), 0xFD, 0xE0, 0xE1].contains (Txn.addr t)

/-- The phase that `bootTableWord` gives a word of the table. -/
def tableWordPhase (t : Txn) : Phase := if bootTableWord t then .boot else .normal

/-- What the decoder reads from a word of the table under the reference configuration, in the phase of
`tableWordPhase`; the bits above `nbits` are 0, and a number of more than 17 bits is no transaction word. -/
def decodeTableWord (nbits w : Nat) : Option Instr :=
  (decodeNat Params.reference (tableWordPhase (BitVec.ofNat 17 (w % 2 ^ nbits))) .bootActive (w % 2 ^ nbits)).toOption

end Sys2Proof
end

