-- ==== Sys2Proof/Machine/Memory.lean ====
section
/-! DEFINITION. The arena's memory (10_state.md R35, 20_memory.md R80 and R81): a list of the bytes written since the last
reset, in one canonical form. An unlisted offset holds NO value of the list's: its byte is the reset draw of R98, which
`State.arenaByte` supplies (notes/assumptions/1.md). -/

namespace Sys2Proof.Machine

/-- The arena bytes written since reset, by offset. -/
abbrev Memory := List Host.Cell

/-- What an unlisted offset reads as: no written value. -/
def Memory.unlisted : Option Byte := none

/-- The byte last written at an offset, `Memory.unlisted` where nothing has written one. -/
def Memory.read : Memory → Nat → Option Byte
  | [], _ => Memory.unlisted
  | (b, v) :: m, a => if a = b then some v else Memory.read m a

/-- Write one byte, keeping the offsets in order. No byte is what an unlisted offset reads as, so a write removes no
entry. -/
def Memory.write : Memory → Nat → Byte → Memory
  | [], a, v => [(a, v)]
  | (b, w) :: m, a, v =>
    if a < b then (a, v) :: (b, w) :: m
    else if a = b then (a, v) :: m
    else (b, w) :: Memory.write m a v

/-- The offsets of a list stand in strictly rising order, all above a bound. -/
def Memory.risingFrom (lo : Nat) : Memory → Bool
  | [] => true
  | (b, _) :: m => decide (lo ≤ b) && Memory.risingFrom (b + 1) m

/-- The canonical form: offsets strictly rising, all of them below `ARENA_SIZE` (R81). -/
def Memory.wf (m : Memory) : Bool :=
  Memory.risingFrom 0 m && m.all fun c => decide (c.1 < Config.arenaSize)

end Sys2Proof.Machine
end

