-- ==== Sys2Proof/Machine/State.lean ====
section
/-! DEFINITION. The state of the MIA core and its adjacent agents (10_state.md R30), the ways a step can stop, and the state
after reset (R44). -/

namespace Sys2Proof.Machine

/-- The machine's state. The fields `phase` to `out` are those of 10_state.md R30. The rest is the model's own:
`cfg`, the parameters of 00_scope.md R10, which no step changes; `epoch`, the number of resets so far, which names the
reset draws; `dataBus`, the byte that the core drives in the last step, the "return" of R12 (`none` where that step was no read
cycle); `inbox`, the events that are to happen next; `draws`, the number of free values taken so far. -/
@[ext]
structure State where
  cfg : Params
  phase : Phase
  cur : Vector Cursor 256
  win : Vector Window 8
  arena : Memory
  epoch : Nat
  st : Status
  irq : Irq
  dmacfg : CopyCmd
  icq : List CopyCmd
  dma : Dma
  rome : Rome
  out : Outputs
  dataBus : Option Byte
  inbox : List Event
  draws : Nat
deriving DecidableEq, Repr

/-- Why the machine stops with a fault. -/
inductive Fault where
  /-- Raised by a bus cycle in which the host asserts both `OE` and `WE`: "The model records a fault,
  `BusDirectionConflict`, and asserts nothing after it" (40_bus_frontend.md R149). Safe: the spec's own fault. -/
  | busDirectionConflict
deriving DecidableEq, Repr

/-- Why the machine refuses to go on. -/
inductive Refusal where
  /-- An instruction with no meaning yet, rejected in its arm of `exec`. Safe. No arm raises it. -/
  | notModelled (mnemonic : String)
  /-- Raised by `StartBoot` where the configuration is not valid: "A model checks the configuration for this and
  refuses to start if it fails" (47_rom_emulator.md R321). Safe: the spec's own refusal. -/
  | invalidConfiguration
deriving DecidableEq, Repr

/-- The state after power-on reset and after `SYSTEM_RESET` (10_state.md R44), for a configuration. The arena lists
nothing, so every byte is a draw of the given epoch, and so is `out.host_reset`. The events still to come and the number
of draws taken belong to the world outside, which the reset does not touch. -/
def State.powerOn (p : Params) (epoch : Nat) (inbox : List Event) (draws : Nat) : State :=
  { cfg := p
    phase := .boot
    cur := Params.cursorTable p
    win := resetWindows
    arena := []
    epoch := epoch
    st := resetStatus
    irq := resetIrq p
    dmacfg := resetDmacfg
    icq := []
    dma := resetDma
    rome := resetRome
    out := resetOutputs epoch
    dataBus := none
    inbox := inbox
    draws := draws }

/-- The machine right after power-on reset, in the reference configuration, with no event given. -/
def State.reset : State := State.powerOn Params.reference 0 [] 0

end Sys2Proof.Machine
end

