-- ==== Sys2Proof/Machine/Flags.lean ====
section
/-! DEFINITION. The IRQ controller's operations and the status byte (46_irq_controller.md section 1, R293). -/

namespace Sys2Proof.Machine

/-- `IRQ_PENDING = irq.enable ∧ ((irq.cause & irq.mask) ≠ 0)` (R291). -/
def Irq.pending (q : Irq) : Bool := q.enable && decide (q.cause &&& q.mask ≠ 0)

/-- `irq_reevaluate()` (R295). -/
def Irq.reevaluate (q : Irq) : Irq := { q with line := q.pending }

/-- `irq_set_bits(b)` (R290). -/
def Irq.setBits (q : Irq) (b : Half) : Irq := ({ q with cause := q.cause ||| b } : Irq).reevaluate

/-- `irq_clear_cause(m)` (R299). -/
def Irq.clearCause (q : Irq) (m : Half) : Irq := ({ q with cause := q.cause &&& ~~~m } : Irq).reevaluate

/-- `irq_clear_all()` (R310). -/
def Irq.clearAll (q : Irq) : Irq := ({ q with cause := 0x0000 } : Irq).reevaluate

/-- Store a mask and re-evaluate the line: "`set_mask(m)`: store, then re-evaluate line" (R304, R305). -/
def Irq.setMask (q : Irq) (m : Half) : Irq := ({ q with mask := m } : Irq).reevaluate

/-- Store the global enable and re-evaluate the line: "`set_enable(e)`" (R307). -/
def Irq.setEnable (q : Irq) (e : Bool) : Irq := ({ q with enable := e } : Irq).reevaluate

/-- `irq_init()` (R311). -/
def Irq.init (p : Params) (q : Irq) : Irq :=
  ({ q with cause := 0x0000, mask := p.irqMaskReset, enable := p.irqEnableReset } : Irq).reevaluate

/-- The bits of `cause` and `mask` (10_state.md R37): the core raises bits 0, 2 and 3, nothing raises bit 1 (decision
D12), and collaborators raise the others through `ExtRaise` (46_irq_controller.md R296). -/
def causeMemoryError : Half := 0x0001

/-- Bit 1, INDEX_OVERFLOW, "never raised by this hardware" (R37). -/
def causeIndexOverflow : Half := 0x0002

/-- Bit 2, DMA_COMPLETE (R37). -/
def causeDmaComplete : Half := 0x0004

/-- Bit 3, DMA_ERROR (R37). -/
def causeDmaError : Half := 0x0008

/-- Bit 4, USB_KEYBOARD, a collaborator's (R37). -/
def causeUsbKeyboard : Half := 0x0010

/-- Bit 5, USB_DEVICE_CHANGE, a collaborator's (R37). -/
def causeUsbDeviceChange : Half := 0x0020

/-- Bit 8, VIDEO_FRAME_COMPLETE, a collaborator's (R37). -/
def causeVideoFrameComplete : Half := 0x0100

/-- Bit 9, VIDEO_COLLISION, a collaborator's (R37). -/
def causeVideoCollision : Half := 0x0200

/-- One bit of the status byte at its place. -/
def statusBit (place : Fin 8) (b : Bool) : Byte := if b then 1#8 <<< place.val else 0

/-- The byte that `DEVICE_STATUS` reads (R293), at the places of `STATUS_LAYOUT` (10_state.md R36): READY is 1, for it is
the BFE that serves the read (decision D10), IRQ_PENDING is computed, the other three are stored, the rest read 0. -/
def State.statusByte (s : State) : Byte :=
  statusBit s.cfg.statusLayout.ready true
    ||| statusBit s.cfg.statusLayout.irqPending s.irq.pending
    ||| statusBit s.cfg.statusLayout.memoryError s.st.memerr
    ||| statusBit s.cfg.statusLayout.indexOverflow s.st.idxovf
    ||| statusBit s.cfg.statusLayout.dmaActive s.st.dmaActive

end Sys2Proof.Machine
end

