-- ==== Sys2Proof/Machine/Ops.lean ====
section
/-! DEFINITION. The named operations over the state: cursors, windows, the arena, the data bus, free values, and the one
way an error is signalled (00_scope.md R13). The core has no trap entry and no return (60_exceptions.md R357, R360). -/

namespace Sys2Proof.Machine

/-- `cur[i]` (00_scope.md R12). -/
def State.cursor (s : State) (i : CurNo) : Cursor := s.cur.get ⟨i.toNat, i.isLt⟩

/-- Replace the record `cur[i]`. -/
def State.setCursor (s : State) (i : CurNo) (c : Cursor) : State := { s with cur := s.cur.set i.toNat c i.isLt }

/-- Change every record of the cursor file. -/
def State.mapCursors (s : State) (f : Cursor → Cursor) : State :=
  { s with cur := ⟨(s.cur.toList.map f).toArray, by simp⟩ }

/-- `win[w]` (00_scope.md R12). -/
def State.window (s : State) (w : WinNo) : Window := s.win.get ⟨w.toNat, w.isLt⟩

/-- Replace the record `win[w]`. -/
def State.setWindow (s : State) (w : WinNo) (x : Window) : State := { s with win := s.win.set w.toNat x w.isLt }

/-- `MemRead(a, 1)`: the byte written last, or the draw that the offset holds since reset (20_memory.md R98). -/
def State.arenaByte (s : State) (a : Nat) : Byte := (s.arena.read a).getD (Config.arenaDraw s.epoch a)

/-- `MemWrite(a, 1, v)` (00_scope.md R12). -/
def State.arenaWrite (s : State) (a : Nat) (v : Byte) : State := { s with arena := s.arena.write a v }

/-- "the byte that a read cycle drives on the data bus" (00_scope.md R12, 40_bus_frontend.md R145). -/
def State.drive (s : State) (v : Byte) : State := { s with dataBus := some v }

/-- The core drives nothing: in a write cycle the data bus is an input (40_bus_frontend.md R145). -/
def State.release (s : State) : State := { s with dataBus := none }

/-- A free value has been taken. -/
def State.tookDraw (s : State) : State := { s with draws := s.draws + 1 }

/-- "return a draw": the host latches any value (00_scope.md R14). -/
def State.driveDraw (s : State) : State := (s.drive (Config.busDraw s.draws)).tookDraw

/-- `raise`: every error sets `st.memerr` and a cause bit, and transfers no control (00_scope.md R13; 60_exceptions.md
R350, R357). `raise MemoryError` is this with `causeMemoryError`, `raise DmaError` with `causeDmaError`. -/
def State.raise (s : State) (bits : Half) : State :=
  { s with st := { s.st with memerr := true }, irq := s.irq.setBits bits }

/-- `MEMERR_CLEAR_EVENTS` (decision D11): an event that the parameter names clears `st.memerr`; one that it does not
name leaves it (10_state.md R36). -/
def State.memerrEvent (s : State) (e : MemerrClearEvent) : State :=
  if s.cfg.memerrClearEvents.contains e then { s with st := { s.st with memerr := false } } else s

/-- The source byte of the active copy at arena offset `a` is still to be transferred (45_dma_icq.md R268). -/
def State.sourcePending (s : State) (a : Nat) : Bool :=
  s.dma.active && decide (s.dma.src.toNat ≤ a) && decide (a < s.dma.src.toNat + s.dma.count.toNat)
    && !s.dma.done.contains (a - s.dma.src.toNat)

/-- A host write of an arena byte. Where it hits a source byte of the active copy not yet transferred, it also sets
that byte of `dma.snap` to the old or the new byte, a draw (45_dma_icq.md R268). -/
def State.hostArenaWrite (s : State) (a : Nat) (v : Byte) : State :=
  if s.sourcePending a then
    let snap := if Config.sourceRace s.draws then s.dma.snap.set (a - s.dma.src.toNat) v else s.dma.snap
    { s with arena := s.arena.write a v, dma := { s.dma with snap := snap }, draws := s.draws + 1 }
  else s.arenaWrite a v

/-- The levels of the core's output pins (40_bus_frontend.md R140): `IRQ_n` is low while the line is 1 (46_irq_controller.md
R292); the others mirror `out` (decision D34). -/
structure OutputPins where
  irqN : Bool
  hreset : Bool
  hclkSel : Bool
  bank : Bool
  data : Option Byte
deriving DecidableEq, Repr

/-- The output pins of the step that led to a state: `D` is driven only where that step was a read cycle, and carries the
byte that the host latches (40_bus_frontend.md R145). -/
def State.pins (s : State) : OutputPins :=
  { irqN := !s.irq.line, hreset := s.out.hostReset, hclkSel := s.out.clkFast, bank := s.out.bank, data := s.dataBus }

/-- The host address at which the host reaches a local address, where there is one: in phase BOOT the window from `$FF00` on
while `out.bank` is 1, and none while it is 0 (47_rom_emulator.md R321); in phase NORMAL from `HOST_MIA_BASE` on
(20_memory.md R82). No rule of the core depends on it. -/
def State.hostAddress (s : State) (a : Byte) : Option Half :=
  match s.phase with
  | .boot => if s.out.bank then some (0xFF00 + a.setWidth 16) else none
  | .normal => some (s.cfg.hostMiaBase + a.setWidth 16)

end Sys2Proof.Machine
end

