-- ==== Sys2Proof/Machine/Operands.lean ====
section
/-! DEFINITION. The operand forms: the cursor a window selects, the effective address and its validation, the step rule
(42_ime_data_port.md), and the bytes of the fields that a selector names (43_ime_config.md). -/

namespace Sys2Proof.Machine

/-- `i = win[w].idx`, read at the moment of the cycle (41_register_decode_window.md R168). -/
def State.activeIndex (s : State) (w : WinNo) : CurNo := (s.window w).idx

/-- The cursor that window `w` selects. -/
def State.activeCursor (s : State) (w : WinNo) : Cursor := s.cursor (s.activeIndex w)

/-- The effective address of a `DATA_PORT[w]` access (42_ime_data_port.md R180). -/
def State.effectiveAddress (s : State) (w : WinNo) : Nat := (s.activeCursor w).current.toNat

/-- A cursor address is valid when it is below `ARENA_SIZE` (20_memory.md R81). -/
def addressValid (a : Nat) : Bool := decide (a < Config.arenaSize)

/-- `flags` bit 0, `AUTO_STEP` (10_state.md R33). -/
def Cursor.autoStep (c : Cursor) : Bool := c.flags.getLsbD 0

/-- `flags` bit 1, `DIRECTION`: 0 forward, 1 backward (10_state.md R33). -/
def Cursor.backward (c : Cursor) : Bool := c.flags.getLsbD 1

/-- `flags` bit 2, `WRAP_ON_LIMIT` (10_state.md R33). -/
def Cursor.wrapOnLimit (c : Cursor) : Bool := c.flags.getLsbD 2

/-- The exact step result, an integer: the sum for a forward step (42_ime_data_port.md R183), the difference, which may
be negative, for a backward step (R184, R187). -/
def Cursor.exactStep (c : Cursor) : Int :=
  if Cursor.backward c then (c.current.toNat : Int) - c.step.toNat else (c.current.toNat : Int) + c.step.toNat

/-- The step result is past the limit: at or above it forward (R183), below it backward, compared as a signed value
(R184, conflict C1). -/
def Cursor.pastLimit (c : Cursor) : Bool :=
  if Cursor.backward c then decide (Cursor.exactStep c < (c.limit.toNat : Int))
  else decide ((c.limit.toNat : Int) ≤ Cursor.exactStep c)

/-- `Step(i)`: `current` takes the step result, or the default where the cursor wraps; the write-back truncates to 24
bits (R183, R184, R187). -/
def Cursor.stepped (c : Cursor) : Cursor :=
  { c with
    current := if Cursor.wrapOnLimit c && Cursor.pastLimit c then c.dflt else BitVec.ofInt 24 (Cursor.exactStep c) }

/-- The step after a successful `DATA_PORT` access: only where `AUTO_STEP` is set (42_ime_data_port.md R181, R182). -/
def State.autoStep (s : State) (w : WinNo) : State :=
  if Cursor.autoStep (s.activeCursor w) then s.setCursor (s.activeIndex w) (Cursor.stepped (s.activeCursor w)) else s

/-- Byte `k` of a field, counted from the least significant: `(F >> 8k) & 0xFF` (30_encoding.md R118). -/
def fieldByte {n : Nat} (f : BitVec n) (k : Nat) : Byte := f.extractLsb' (8 * k) 8

/-- Replace byte `k` of a field: `(F & ~(0xFF << 8k)) | (d << 8k)` (30_encoding.md R118). -/
def replaceByte {n : Nat} (f : BitVec n) (k : Nat) (d : Byte) : BitVec n :=
  (f &&& ~~~(BitVec.ofNat n 0xFF <<< (8 * k))) ||| (d.setWidth n <<< (8 * k))

/-- What a selector names (43_ime_config.md R212): a byte of a cursor field, a byte of the shared DMA-config record, or
nothing. -/
inductive CfgField where
  | current (k : Nat)
  | dflt (k : Nat)
  | limit (k : Nat)
  | step
  | flags
  | dmaSrc
  | dmaDst
  | dmaCount (k : Nat)
  | nothing
deriving DecidableEq, Repr

/-- The selector map (43_ime_config.md R212, R214). -/
def cfgField (sel : Byte) : CfgField :=
  if sel.toNat ≤ 2 then .current sel.toNat
  else if sel.toNat ≤ 5 then .dflt (sel.toNat - 3)
  else if sel.toNat ≤ 8 then .limit (sel.toNat - 6)
  else if sel.toNat = 9 then .step
  else if sel.toNat = 10 then .flags
  else if sel.toNat = 11 then .dmaSrc
  else if sel.toNat = 12 then .dmaDst
  else if sel.toNat ≤ 14 then .dmaCount (sel.toNat - 13)
  else .nothing

/-- The byte that `CFG_DATA` reads, for the active cursor `i` (43_ime_config.md R210). -/
def State.cfgRead (s : State) (i : CurNo) : CfgField → Byte
  | .current k => fieldByte (s.cursor i).current k
  | .dflt k => fieldByte (s.cursor i).dflt k
  | .limit k => fieldByte (s.cursor i).limit k
  | .step => (s.cursor i).step
  | .flags => (s.cursor i).flags
  | .dmaSrc => s.dmacfg.srcIdx
  | .dmaDst => s.dmacfg.dstIdx
  | .dmaCount k => fieldByte s.dmacfg.count k
  | .nothing => 0x00

/-- The effect of a `CFG_DATA` write, for the active cursor `i` (43_ime_config.md R211). -/
def State.cfgWrite (s : State) (i : CurNo) (d : Byte) : CfgField → State
  | .current k => s.setCursor i { s.cursor i with current := replaceByte (s.cursor i).current k d }
  | .dflt k => s.setCursor i { s.cursor i with dflt := replaceByte (s.cursor i).dflt k d }
  | .limit k => s.setCursor i { s.cursor i with limit := replaceByte (s.cursor i).limit k d }
  | .step => s.setCursor i { s.cursor i with step := d }
  | .flags => s.setCursor i { s.cursor i with flags := d }
  | .dmaSrc => { s with dmacfg := { s.dmacfg with srcIdx := d } }
  | .dmaDst => { s with dmacfg := { s.dmacfg with dstIdx := d } }
  | .dmaCount k => { s with dmacfg := { s.dmacfg with count := replaceByte s.dmacfg.count k d } }
  | .nothing => s

end Sys2Proof.Machine
end

