-- ==== Sys2Proof/Machine/Agents.lean ====
section
/-! DEFINITION. The steps of the agents beside the host (00_scope.md R8): Core 1's dispatch, the DMA engine
(45_dma_icq.md), the external IRQ sources (46_irq_controller.md R296) and ROME's sequencer (47_rom_emulator.md section 2).
Each is a plain change of state; `Event.enabled` says when an agent may take it. -/

namespace Sys2Proof.Machine

/-- Every offset of the copy has been transferred: `dma.done = [0, dma.count)` (45_dma_icq.md R263). -/
def Dma.allDone (m : Dma) : Bool := (List.range m.count.toNat).all fun k => m.done.contains k

/-- Put an offset into the set `done`, a strictly rising list. -/
def insertOffset (k : Nat) : List Nat → List Nat
  | [] => [k]
  | j :: l => if k < j then k :: j :: l else if k = j then j :: l else j :: insertOffset k l

/-- When an agent's step is enabled: 45_dma_icq.md R263, 47_rom_emulator.md R322, R323 and R328. A host cycle, an
external raise and power-on may happen at any time (00_scope.md R8, 46_irq_controller.md R296). -/
def Event.enabled (s : State) : Event → Bool
  | .powerOn => true
  | .busCycle _ _ => true
  | .dispatch => decide (0 < s.icq.length)
  | .transfer k => s.dma.active && decide (k < s.dma.count.toNat) && !s.dma.done.contains k
  | .complete => s.dma.active && Dma.allDone s.dma
  | .extRaise _ => true
  | .startBoot => decide (s.phase = .boot) && decide (s.rome.rst = .inactive) && !s.rome.started
  | .releaseReset => decide (s.rome.rst = .resetSequence)
  | .handOff => decide (s.phase = .boot) && decide (s.rome.rst = .complete)

/-- Power-on reset (70_reset_and_hazards.md R380): a new epoch of reset draws. -/
def State.powerOnReset (s : State) : State := State.powerOn s.cfg (s.epoch + 1) s.inbox s.draws

/-- Precondition 1 of a copy: both start addresses are valid (45_dma_icq.md R265). -/
def copyStartsValid (src dst : Nat) : Bool := addressValid src && addressValid dst

/-- Preconditions 2 to 4 of a copy: `count > 0`, no copy in flight, both ends inside the arena; exact sums
(45_dma_icq.md R265). -/
def copyBoundsValid (active : Bool) (src dst n : Nat) : Bool :=
  decide (0 < n) && !active && decide (src + n ≤ Config.arenaSize) && decide (dst + n ≤ Config.arenaSize)

/-- `Start(s, d, n)` (45_dma_icq.md R267): `snap` holds the source bytes from before the copy. -/
def State.startCopy (s : State) (src dst : Addr) (n : Half) : State :=
  { s with
    dma :=
      { active := true, src := src, dst := dst, count := n, done := []
        snap := (List.range n.toNat).map fun k => s.arenaByte (src.toNat + k) }
    st := { s.st with dmaActive := true } }

/-- `process_copy_command` on one record: the two cursors' `current` are read now (45_dma_icq.md R264). -/
def State.processCopy (s : State) (e : CopyCmd) : State :=
  let src := (s.cursor e.srcIdx).current
  let dst := (s.cursor e.dstIdx).current
  if !copyStartsValid src.toNat dst.toNat then s.raise causeMemoryError
  else if !copyBoundsValid s.dma.active src.toNat dst.toNat e.count.toNat then s.raise causeDmaError
  else s.startCopy src dst e.count

/-- `Dispatch`: remove the oldest record and process it (45_dma_icq.md R262, R264). -/
def State.dispatchStep (s : State) : State :=
  match s.icq with
  | [] => s
  | e :: rest => ({ s with icq := rest } : State).processCopy e

/-- `Transfer(k)` (45_dma_icq.md R268). In every reachable state `snap` has `count` bytes; where it has fewer, the byte
delivered is the source's own. -/
def State.transferStep (s : State) (k : Nat) : State :=
  { s.arenaWrite (s.dma.dst.toNat + k) (s.dma.snap.getD k (s.arenaByte (s.dma.src.toNat + k))) with
    dma := { s.dma with done := insertOffset k s.dma.done } }

/-- `Complete` (45_dma_icq.md R270). -/
def State.completeStep (s : State) : State :=
  { s with
    dma := { s.dma with active := false }
    st := { s.st with dmaActive := false }
    irq := s.irq.setBits causeDmaComplete }

/-- `ExtRaise(b)` with `b & 0x000F = 0`: the collaborator gives bits 15:4 (46_irq_controller.md R296). One raise may carry
several bits: 60_exceptions.md R359 says that each agent step "sets at most one cause bit", while R296 puts no such bound
on `b`, and the model follows R296 (DESIGN CHOICE, notes/assumptions/26.md). -/
def State.extRaiseStep (s : State) (b : BitVec 12) : State := { s with irq := s.irq.setBits (b.setWidth 16 <<< 4) }

/-- `StartBoot` (47_rom_emulator.md R322). -/
def State.startBootStep (s : State) : State :=
  { s with
    rome := { s.rome with rst := .resetSequence, started := true }
    out := { s.out with hostReset := true } }

/-- `ReleaseReset` (47_rom_emulator.md R323). -/
def State.releaseResetStep (s : State) : State :=
  { s with
    rome := { s.rome with rst := .bootActive }
    out := { s.out with bank := true, hostReset := false } }

/-- `HandOff` (47_rom_emulator.md R328). -/
def State.handOffStep (s : State) : State :=
  { s with
    phase := .normal
    rome := { s.rome with rst := .inactive }
    out := { s.out with clkFast := true, bank := false } }

end Sys2Proof.Machine
end

