-- ==== Sys2Proof/Machine/DataPort.lean ====
section
/-! DEFINITION. `DATA_PORT` and `CFG_DATA` (42_ime_data_port.md, 43_ime_config.md). -/

namespace Sys2Proof.Machine

/-- `RD_DATA_PORT` (R181): an invalid address raises MemoryError and reads 0x00, the cursor unchanged (R185). -/
def execRdDataPort (w : WinNo) (s : State) : Host.Outcome State Fault Refusal :=
  if addressValid (s.effectiveAddress w) then
    .next ((s.autoStep w).drive (s.arenaByte (s.effectiveAddress w)))
  else .next ((s.raise causeMemoryError).drive 0x00)

/-- `WR_DATA_PORT` (R182): the store goes to the unstepped `current` (40_bus_frontend.md R143); an invalid address
raises MemoryError and the write is skipped, the cursor unchanged (R185). -/
def execWrDataPort (w : WinNo) (d : Byte) (s : State) : Host.Outcome State Fault Refusal :=
  if addressValid (s.effectiveAddress w) then
    .next ((s.hostArenaWrite (s.effectiveAddress w) d).autoStep w).release
  else .next (s.raise causeMemoryError).release

/-- `RD_CFG_DATA` (43_ime_config.md R210). -/
def execRdCfgData (w : WinNo) (s : State) : Host.Outcome State Fault Refusal :=
  .next (s.drive (s.cfgRead (s.activeIndex w) (cfgField (s.window w).sel)))

/-- `WR_CFG_DATA` (43_ime_config.md R211). -/
def execWrCfgData (w : WinNo) (d : Byte) (s : State) : Host.Outcome State Fault Refusal :=
  .next (s.cfgWrite (s.activeIndex w) d (cfgField (s.window w).sel)).release

end Sys2Proof.Machine
end

