-- ==== Sys2Proof/Machine/RomeCycles.lean ====
section
/-! DEFINITION. The bus cycles of phase BOOT (47_rom_emulator.md section 3). -/

namespace Sys2Proof.Machine

/-- Kernel bytes remain to be streamed (R333, R334). -/
def State.kernelRemains (s : State) : Bool := decide (s.rome.kptr.toNat < s.cfg.kernelImage.length)

/-- `ROM_RD_VECTOR_LO` (R329). -/
def execRomRdVectorLo (s : State) : Host.Outcome State Fault Refusal :=
  .next (s.drive (fieldByte s.cfg.bootloaderEntry 0))

/-- `ROM_RD_VECTOR_HI` (R330). -/
def execRomRdVectorHi (s : State) : Host.Outcome State Fault Refusal :=
  .next (s.drive (fieldByte s.cfg.bootloaderEntry 1))

/-- `ROM_RD_KSTATUS`: the first one in `BOOT_ACTIVE` moves the sequencer on (R333, R326). -/
def execRomRdKstatus (s : State) : Host.Outcome State Fault Refusal :=
  let rst :=
    if s.rome.rst = .bootActive then (if s.cfg.kernelImage.length = 0 then .complete else .kernelLoading)
    else s.rome.rst
  .next (({ s with rome := { s.rome with rst := rst } } : State).drive (if s.kernelRemains then 0x01 else 0x00))

/-- `ROM_RD_KDATA`: the next kernel byte; the last one completes the sequence; past the end the read returns a draw and
changes no state (R334). -/
def execRomRdKdata (s : State) : Host.Outcome State Fault Refusal :=
  if s.kernelRemains then
    let kptr := s.rome.kptr + 1
    let rst := if kptr.toNat = s.cfg.kernelImage.length then RomeState.complete else s.rome.rst
    .next (({ s with rome := { s.rome with kptr := kptr, rst := rst } } : State).drive
      (s.cfg.kernelImage.getD s.rome.kptr.toNat s.cfg.hostNopByte))
  else .next s.driveDraw

/-- `ROM_RD_BOOTLOADER` (R331). An address past the image, which never decodes to this instruction, reads the filler
byte of R332. -/
def execRomRdBootloader (a : Byte) (s : State) : Host.Outcome State Fault Refusal :=
  .next (s.drive (if inBootloader s.cfg a then
    s.cfg.bootloaderImage.getD (a.toNat - s.cfg.blBase.toNat) s.cfg.hostNopByte else s.cfg.hostNopByte))

/-- `ROM_RD_OTHER` (R332). -/
def execRomRdOther (_a : Byte) (s : State) : Host.Outcome State Fault Refusal :=
  .next (s.drive s.cfg.hostNopByte)

/-- `ROM_WR`: "Writes. Ignored." (R335). -/
def execRomWr (_a : Byte) (_d : Byte) (s : State) : Host.Outcome State Fault Refusal :=
  .next s.release

/-- `ROM_CYCLE_NOT_SERVING`: a read returns a draw, a write has no effect (R336). -/
def execRomCycleNotServing (t : Txn) (s : State) : Host.Outcome State Fault Refusal :=
  .next (if t.getLsbD 16 then s.release else s.driveDraw)

end Sys2Proof.Machine
end

