-- ==== Sys2Proof/Machine/SharedCommands.lean ====
section
/-! DEFINITION. The shared commands, writes to `SHARED_COMMAND`, and its read (44_commands.md section 2). -/

namespace Sys2Proof.Machine

/-- `RD_SHARED_COMMAND`: the register is write-only, and a read returns 0x00 (R247, decision D4). -/
def execRdSharedCommand (s : State) : Host.Outcome State Fault Refusal :=
  .next (s.drive 0x00)

/-- `SCMD_NOP` (R240). -/
def execScmdNop (s : State) : Host.Outcome State Fault Refusal :=
  .next s.release

/-- `SCMD_RESET_ALL_IDX` (R241). -/
def execScmdResetAllIdx (s : State) : Host.Outcome State Fault Refusal :=
  .next (s.mapCursors fun c => { c with current := c.dflt }).release

/-- `SCMD_FACTORY_RESET_ALL_IDX`: `irq_init()`, then every cursor takes its record of `DEFAULT_TABLE` (R242). -/
def execScmdFactoryResetAllIdx (s : State) : Host.Outcome State Fault Refusal :=
  .next (({ s with irq := s.irq.init s.cfg, cur := Params.cursorTable s.cfg } : State).memerrEvent .factoryReset).release

/-- `SCMD_CLEAR_IRQ` (R243). -/
def execScmdClearIrq (s : State) : Host.Outcome State Fault Refusal :=
  .next (({ s with irq := s.irq.clearAll } : State).memerrEvent .clearIrq).release

/-- `try_add(e)` (45_dma_icq.md R261): a full queue is left unchanged. -/
def State.icqTryAdd (s : State) (e : CopyCmd) : State :=
  if s.icq.length < s.cfg.icqCapacity then { s with icq := s.icq ++ [e] } else s

/-- `SCMD_COPY_BLOCK`: the record is captured now; a full queue drops the command silently (R244). -/
def execScmdCopyBlock (s : State) : Host.Outcome State Fault Refusal :=
  .next (s.icqTryAdd s.dmacfg).release

/-- `SCMD_SYSTEM_RESET`: power-on reset, after the writing cycle completes (R245, decision D23). -/
def execScmdSystemReset (s : State) : Host.Outcome State Fault Refusal :=
  .next (State.powerOn s.cfg (s.epoch + 1) s.inbox s.draws)

/-- `SCMD_UNKNOWN`: "Unknown opcodes are no-ops" (R246). -/
def execScmdUnknown (_d : Byte) (s : State) : Host.Outcome State Fault Refusal :=
  .next s.release

end Sys2Proof.Machine
end

