-- ==== Sys2Proof/Machine/SharedRegs.lean ====
section
/-! DEFINITION. `DEVICE_STATUS`, the IRQ registers and the reserved shared addresses (46_irq_controller.md sections 2 to
5). -/

namespace Sys2Proof.Machine

/-- `RD_DEVICE_STATUS` (R293). -/
def execRdDeviceStatus (s : State) : Host.Outcome State Fault Refusal :=
  .next (s.drive s.statusByte)

/-- `WR_DEVICE_STATUS`: no effect (R294), unless `MEMERR_CLEAR_EVENTS` names it (decision D11). -/
def execWrDeviceStatus (_d : Byte) (s : State) : Host.Outcome State Fault Refusal :=
  .next (s.memerrEvent .deviceStatusWrite).release

/-- `RD_IRQ_CAUSE_LOW` (R297). -/
def execRdIrqCauseLow (s : State) : Host.Outcome State Fault Refusal :=
  .next (s.drive (fieldByte s.irq.cause 0))

/-- `WR_IRQ_CAUSE_LOW`: write-1-to-clear (R300). -/
def execWrIrqCauseLow (d : Byte) (s : State) : Host.Outcome State Fault Refusal :=
  let t : State := { s with irq := s.irq.clearCause (d.setWidth 16) }
  .next (if d.getLsbD 0 then t.memerrEvent .causeBitZeroCleared else t).release

/-- `RD_IRQ_CAUSE_HIGH` (R298). -/
def execRdIrqCauseHigh (s : State) : Host.Outcome State Fault Refusal :=
  .next (s.drive (fieldByte s.irq.cause 1))

/-- `WR_IRQ_CAUSE_HIGH`: write-1-to-clear (R301). -/
def execWrIrqCauseHigh (d : Byte) (s : State) : Host.Outcome State Fault Refusal :=
  .next ({ s with irq := s.irq.clearCause (d.setWidth 16 <<< 8) } : State).release

/-- `RD_IRQ_MASK_LOW` (R302). -/
def execRdIrqMaskLow (s : State) : Host.Outcome State Fault Refusal :=
  .next (s.drive (fieldByte s.irq.mask 0))

/-- `WR_IRQ_MASK_LOW` (R304). -/
def execWrIrqMaskLow (d : Byte) (s : State) : Host.Outcome State Fault Refusal :=
  .next ({ s with irq := s.irq.setMask (replaceByte s.irq.mask 0 d) } : State).release

/-- `RD_IRQ_MASK_HIGH` (R303). -/
def execRdIrqMaskHigh (s : State) : Host.Outcome State Fault Refusal :=
  .next (s.drive (fieldByte s.irq.mask 1))

/-- `WR_IRQ_MASK_HIGH` (R305). -/
def execWrIrqMaskHigh (d : Byte) (s : State) : Host.Outcome State Fault Refusal :=
  .next ({ s with irq := s.irq.setMask (replaceByte s.irq.mask 1 d) } : State).release

/-- `RD_IRQ_ENABLE`: 0x00 or 0x01 (R306). -/
def execRdIrqEnable (s : State) : Host.Outcome State Fault Refusal :=
  .next (s.drive (if s.irq.enable then 0x01 else 0x00))

/-- `WR_IRQ_ENABLE`: "any nonzero write normalizes to 1" (R307). -/
def execWrIrqEnable (d : Byte) (s : State) : Host.Outcome State Fault Refusal :=
  .next ({ s with irq := s.irq.setEnable (decide (d ≠ 0)) } : State).release

/-- `RD_SHARED_RESERVED` (R308). -/
def execRdSharedReserved (_r : BitVec 7) (s : State) : Host.Outcome State Fault Refusal :=
  .next (s.drive 0x00)

/-- `WR_SHARED_RESERVED` (R309). -/
def execWrSharedReserved (_r : BitVec 7) (_d : Byte) (s : State) : Host.Outcome State Fault Refusal :=
  .next s.release

end Sys2Proof.Machine
end

