-- ==== Sys2Proof/Machine/WindowCommands.lean ====
section
/-! DEFINITION. The window-level commands, writes to `COMMAND[w]` (44_commands.md section 1). -/

namespace Sys2Proof.Machine

/-- `CMD_NOP` (R230). -/
def execCmdNop (_w : WinNo) (s : State) : Host.Outcome State Fault Refusal :=
  .next s.release

/-- `CMD_RESET_INDEX` (R231). -/
def execCmdResetIndex (w : WinNo) (s : State) : Host.Outcome State Fault Refusal :=
  .next (s.setCursor (s.activeIndex w) { s.activeCursor w with current := (s.activeCursor w).dflt }).release

/-- `CMD_SET_DEFAULT_TO_ADDR` (R232). -/
def execCmdSetDefaultToAddr (w : WinNo) (s : State) : Host.Outcome State Fault Refusal :=
  .next (s.setCursor (s.activeIndex w) { s.activeCursor w with dflt := (s.activeCursor w).current }).release

/-- `CMD_SET_LIMIT_TO_ADDR` (R233). -/
def execCmdSetLimitToAddr (w : WinNo) (s : State) : Host.Outcome State Fault Refusal :=
  .next (s.setCursor (s.activeIndex w) { s.activeCursor w with limit := (s.activeCursor w).current }).release

/-- `CMD_UNKNOWN`: "Unknown opcodes are no-ops" (R234). -/
def execCmdUnknown (_w : WinNo) (_d : Byte) (s : State) : Host.Outcome State Fault Refusal :=
  .next s.release

end Sys2Proof.Machine
end

