-- ==== Sys2Proof/Machine/WindowRegs.lean ====
section
/-! DEFINITION. The window latch registers (41_register_decode_window.md): `IDX_SELECT`, `CFG_FIELD_SELECT`, reads of
`COMMAND`, and the reserved window offsets. -/

namespace Sys2Proof.Machine

/-- `RD_IDX_SELECT` (R160). -/
def execRdIdxSelect (w : WinNo) (s : State) : Host.Outcome State Fault Refusal :=
  .next (s.drive (s.window w).idx)

/-- `WR_IDX_SELECT` (R161). -/
def execWrIdxSelect (w : WinNo) (d : Byte) (s : State) : Host.Outcome State Fault Refusal :=
  .next (s.setWindow w { s.window w with idx := d }).release

/-- `RD_CFG_FIELD_SELECT` (R162). -/
def execRdCfgFieldSelect (w : WinNo) (s : State) : Host.Outcome State Fault Refusal :=
  .next (s.drive (s.window w).sel)

/-- `WR_CFG_FIELD_SELECT`: all 8 bits are stored (R163, decision D5). -/
def execWrCfgFieldSelect (w : WinNo) (d : Byte) (s : State) : Host.Outcome State Fault Refusal :=
  .next (s.setWindow w { s.window w with sel := d }).release

/-- `RD_COMMAND`: the register is write-only, and a read returns 0x00 (R166, decision D4). -/
def execRdCommand (_w : WinNo) (s : State) : Host.Outcome State Fault Refusal :=
  .next (s.drive 0x00)

/-- `RD_WIN_RESERVED` (R164). -/
def execRdWinReserved (_w : WinNo) (_o : BitVec 4) (s : State) : Host.Outcome State Fault Refusal :=
  .next (s.drive 0x00)

/-- `WR_WIN_RESERVED` (R165). -/
def execWrWinReserved (_w : WinNo) (_o : BitVec 4) (_d : Byte) (s : State) : Host.Outcome State Fault Refusal :=
  .next s.release

end Sys2Proof.Machine
end

