-- ==== Sys2Proof/Machine/Dispatch.lean ====
section
/-! DEFINITION. One arm per constructor of Instr, each one direct call of the instruction's meaning. -/

namespace Sys2Proof.Machine

/-- The effect of one decoded bus cycle (40_bus_frontend.md R141, 47_rom_emulator.md section 3). -/
def exec (i : Instr) (s : State) : Host.Outcome State Fault Refusal :=
  match i with
  | .rdIdxSelect w => Sys2Proof.Machine.execRdIdxSelect w s
  | .wrIdxSelect w d => Sys2Proof.Machine.execWrIdxSelect w d s
  | .rdDataPort w => Sys2Proof.Machine.execRdDataPort w s
  | .wrDataPort w d => Sys2Proof.Machine.execWrDataPort w d s
  | .rdCfgFieldSelect w => Sys2Proof.Machine.execRdCfgFieldSelect w s
  | .wrCfgFieldSelect w d => Sys2Proof.Machine.execWrCfgFieldSelect w d s
  | .rdCfgData w => Sys2Proof.Machine.execRdCfgData w s
  | .wrCfgData w d => Sys2Proof.Machine.execWrCfgData w d s
  | .rdCommand w => Sys2Proof.Machine.execRdCommand w s
  | .cmdNop w => Sys2Proof.Machine.execCmdNop w s
  | .cmdResetIndex w => Sys2Proof.Machine.execCmdResetIndex w s
  | .cmdSetDefaultToAddr w => Sys2Proof.Machine.execCmdSetDefaultToAddr w s
  | .cmdSetLimitToAddr w => Sys2Proof.Machine.execCmdSetLimitToAddr w s
  | .cmdUnknown w d => Sys2Proof.Machine.execCmdUnknown w d s
  | .rdWinReserved w o => Sys2Proof.Machine.execRdWinReserved w o s
  | .wrWinReserved w o d => Sys2Proof.Machine.execWrWinReserved w o d s
  | .rdDeviceStatus => Sys2Proof.Machine.execRdDeviceStatus s
  | .wrDeviceStatus d => Sys2Proof.Machine.execWrDeviceStatus d s
  | .rdIrqCauseLow => Sys2Proof.Machine.execRdIrqCauseLow s
  | .wrIrqCauseLow d => Sys2Proof.Machine.execWrIrqCauseLow d s
  | .rdIrqCauseHigh => Sys2Proof.Machine.execRdIrqCauseHigh s
  | .wrIrqCauseHigh d => Sys2Proof.Machine.execWrIrqCauseHigh d s
  | .rdIrqMaskLow => Sys2Proof.Machine.execRdIrqMaskLow s
  | .wrIrqMaskLow d => Sys2Proof.Machine.execWrIrqMaskLow d s
  | .rdIrqMaskHigh => Sys2Proof.Machine.execRdIrqMaskHigh s
  | .wrIrqMaskHigh d => Sys2Proof.Machine.execWrIrqMaskHigh d s
  | .rdIrqEnable => Sys2Proof.Machine.execRdIrqEnable s
  | .wrIrqEnable d => Sys2Proof.Machine.execWrIrqEnable d s
  | .rdSharedCommand => Sys2Proof.Machine.execRdSharedCommand s
  | .scmdNop => Sys2Proof.Machine.execScmdNop s
  | .scmdResetAllIdx => Sys2Proof.Machine.execScmdResetAllIdx s
  | .scmdFactoryResetAllIdx => Sys2Proof.Machine.execScmdFactoryResetAllIdx s
  | .scmdClearIrq => Sys2Proof.Machine.execScmdClearIrq s
  | .scmdCopyBlock => Sys2Proof.Machine.execScmdCopyBlock s
  | .scmdSystemReset => Sys2Proof.Machine.execScmdSystemReset s
  | .scmdUnknown d => Sys2Proof.Machine.execScmdUnknown d s
  | .rdSharedReserved r => Sys2Proof.Machine.execRdSharedReserved r s
  | .wrSharedReserved r d => Sys2Proof.Machine.execWrSharedReserved r d s
  | .romRdVectorLo => Sys2Proof.Machine.execRomRdVectorLo s
  | .romRdVectorHi => Sys2Proof.Machine.execRomRdVectorHi s
  | .romRdKstatus => Sys2Proof.Machine.execRomRdKstatus s
  | .romRdKdata => Sys2Proof.Machine.execRomRdKdata s
  | .romRdBootloader a => Sys2Proof.Machine.execRomRdBootloader a s
  | .romRdOther a => Sys2Proof.Machine.execRomRdOther a s
  | .romWr a d => Sys2Proof.Machine.execRomWr a d s
  | .romCycleNotServing t => Sys2Proof.Machine.execRomCycleNotServing t s

end Sys2Proof.Machine
end

