-- ==== Sys2Proof/Machine/BusCycle.lean ====
section
/-! DEFINITION. One host bus cycle, from the lines the host drives to the meaning of the decoded instruction
(40_bus_frontend.md), and one event of any agent. -/

namespace Sys2Proof.Machine

/-- What the lines of a cycle ask for (40_bus_frontend.md R142, R148, R149). -/
inductive Direction where
  /-- Chip-select is not asserted: no cycle of this core. -/
  | notSelected
  /-- Neither `OE` nor `WE`: a no-access cycle. -/
  | noAccess
  | read
  | write
  /-- Both `OE` and `WE`: the host contract is broken. -/
  | conflict
deriving DecidableEq, Repr

/-- The direction of a cycle; the lines are active-low (40_bus_frontend.md R142, decision D34). -/
def BusPins.direction (p : BusPins) : Direction :=
  if p.csN then .notSelected
  else match p.oeN, p.weN with
    | true, true => .noAccess
    | false, true => .read
    | true, false => .write
    | false, false => .conflict

/-- The lines of a cycle that carries a transaction word (30_encoding.md R110). -/
def Txn.pins (t : Txn) : BusPins :=
  { csN := false, oeN := Txn.isWrite t, weN := !Txn.isWrite t, a := Txn.addr t, d := Txn.data t }

/-- A lost cycle (40_bus_frontend.md R146): MemoryError is signalled and nothing else changes; in a read the byte that
the host latches is a draw, in a write the core drives nothing. -/
def State.overrunCycle (s : State) (t : Txn) : State :=
  if Txn.isWrite t then (s.raise causeMemoryError).release else (s.raise causeMemoryError).driveDraw

/-- `BusCycle(T, overrun)` (40_bus_frontend.md R141) in phase NORMAL; in phase BOOT ROME serves the cycle, and there is no
overrun draw (47_rom_emulator.md R321, decision D22). -/
def serveCycle (t : Txn) (overrun : Bool) (s : State) : Host.Outcome State Fault Refusal :=
  if decide (s.phase = .normal) && overrun then .next (s.overrunCycle t)
  else exec (decode s.cfg s.phase s.rome.rst t) s

/-- One host bus cycle by its lines (40_bus_frontend.md R142). A no-access cycle has no effect, and the data bus is not
driven (R148); a conflict is a fault (R149). -/
def busCycle (p : BusPins) (overrun : Bool) (s : State) : Host.Outcome State Fault Refusal :=
  match BusPins.direction p with
  | .notSelected => .next s
  | .noAccess => .next s.release
  | .read => serveCycle (mkTxn false p.d p.a) overrun s
  | .write => serveCycle (mkTxn true p.d p.a) overrun s
  | .conflict => .fault .busDirectionConflict

/-- One event. An agent's step that is not enabled does not happen: nothing changes (DESIGN CHOICE,
notes/assumptions/7.md). `StartBoot` refuses a configuration that the spec does not admit (47_rom_emulator.md R321). -/
def runEvent (e : Event) (s : State) : Host.Outcome State Fault Refusal :=
  if !Event.enabled s e then .next s
  else match e with
    | .powerOn => .next s.powerOnReset
    | .busCycle p overrun => busCycle p overrun s
    | .dispatch => .next s.dispatchStep
    | .transfer k => .next (s.transferStep k)
    | .complete => .next s.completeStep
    | .extRaise b => .next (s.extRaiseStep b)
    | .startBoot => if Params.valid s.cfg then .next s.startBootStep else .refused .invalidConfiguration
    | .releaseReset => .next s.releaseResetStep
    | .handOff => .next s.handOffStep

/-- The event that happens next: the head of the inbox, or, where none is given, whatever the environment does. -/
def State.nextEvent (s : State) : Event :=
  match s.inbox with
  | e :: _ => e
  | [] => Config.environment s.draws

/-- The state with the next event taken from the world outside, and the data bus released: "The pins are outputs only
during read cycles" (40_bus_frontend.md R145), so a step drives the bus only where it is itself a read cycle. -/
def State.popEvent (s : State) : State :=
  match s.inbox with
  | _ :: rest => { s.release with inbox := rest }
  | [] => s.release.tookDraw

/-- The state in which a word of the opcode table decodes in its phase: NORMAL as the boot sequence leaves it
(47_rom_emulator.md R328), or BOOT as `ReleaseReset` leaves it (R323). A state that is there already is not changed. -/
def State.readyFor (s : State) (ph : Phase) : State :=
  match ph with
  | .normal =>
    if s.phase = .normal then s
    else
      { s with
        phase := .normal
        rome := { s.rome with rst := .inactive, started := true }
        out := { hostReset := false, clkFast := true, bank := false } }
  | .boot =>
    if s.phase = .boot ∧ s.rome.rst.serving = true then s
    else
      { s with
        phase := .boot
        rome := { s.rome with rst := .bootActive, started := true }
        out := { hostReset := false, clkFast := false, bank := true } }

/-- Present a transaction word as the next host bus cycle, with no overrun, in the phase it decodes in. -/
def State.presentWord (s : State) (t : Txn) : State :=
  { s.readyFor (tableWordPhase t) with inbox := .busCycle (Txn.pins t) false :: s.inbox }

end Sys2Proof.Machine
end

