-- ==== Sys2Proof/Machine/Step.lean ====
section
/-! DEFINITION. One step of the machine: the next event of the world outside or of an agent happens (00_scope.md R8). -/

namespace Sys2Proof.Machine

/-- One step: take the next event, and let it happen. -/
def step (s : State) : Host.Outcome State Fault Refusal := runEvent s.nextEvent s.popEvent

/-- The state whose next step is a host bus cycle with the word `w` of the opcode table (30_encoding.md R110); the bits
above `nbits` are 0. The machine fetches no instructions (20_memory.md R96): the word is given as the next event. -/
def State.withFetchWord (s : State) (nbits w : Nat) : State := s.presentWord (BitVec.ofNat 17 (w % 2 ^ nbits))

end Sys2Proof.Machine
end

