-- ==== Sys2Proof/Safety.lean ====
section
/-! DEFINITION. The terms the claims are stated in: the invariant of every reachable state (10_state.md R46), resets, agent
steps and fairness (45_dma_icq.md R263), and runs with what the host reads in them. -/

namespace Sys2Proof.Machine

/-- The set of transferred offsets of a copy, as `dma.done` holds it: strictly rising, each below the count. -/
def Dma.doneWf (m : Dma) : Prop := m.done.Pairwise (· < ·) ∧ ∀ k ∈ m.done, k < m.count.toNat

/-- The invariant of every reachable state: items 2 to 5 of 10_state.md R46 (item 1 is the type of a cursor field), the
canonical form of the arena's memory, and what the other rules keep true. -/
structure Inv (s : State) : Prop where
  /-- The arena's list is in canonical form. -/
  arenaWf : s.arena.wf = true
  /-- `irq.line = IRQ_PENDING` (R46 item 2, 46_irq_controller.md R292). -/
  lineFollows : s.irq.line = s.irq.pending
  /-- `len(icq) <= ICQ_CAPACITY` (R46 item 3). -/
  icqBounded : s.icq.length ≤ s.cfg.icqCapacity
  /-- `st.dma_active = dma.active` (R46 item 4). -/
  dmaStatus : s.st.dmaActive = s.dma.active
  /-- `phase = NORMAL` implies `rome.rst = INACTIVE` and `rome.started = 1` (R46 item 5). -/
  normalRome : s.phase = .normal → s.rome.rst = .inactive ∧ s.rome.started = true
  /-- In phase BOOT ROME is `INACTIVE` exactly before the start (47_rom_emulator.md R328). -/
  bootRome : s.phase = .boot → (s.rome.rst = .inactive ↔ s.rome.started = false)
  /-- `st.idxovf` is never set (10_state.md R36, decision D12). -/
  idxovfClear : s.st.idxovf = false
  /-- A copy in flight met its preconditions and holds one source byte for each offset (45_dma_icq.md R265, R267). -/
  copyInRange : s.dma.active = true →
    0 < s.dma.count.toNat ∧ s.dma.src.toNat + s.dma.count.toNat ≤ Config.arenaSize
      ∧ s.dma.dst.toNat + s.dma.count.toNat ≤ Config.arenaSize ∧ s.dma.snap.length = s.dma.count.toNat
  /-- The offsets transferred are offsets of the copy (10_state.md R30). -/
  copyDone : s.dma.active = true → Dma.doneWf s.dma
  /-- ROME starts only with a configuration that the spec admits (47_rom_emulator.md R321). -/
  startedValid : s.rome.started = true → Params.valid s.cfg = true
  /-- `kptr` never exceeds `len(KERNEL_IMAGE)` (47_rom_emulator.md R334). -/
  kptrBounded : s.rome.kptr.toNat ≤ s.cfg.kernelImage.length
  /-- Nothing is streamed before the serving states. -/
  notServingKptr : s.phase = .boot → s.rome.rst.serving = false → s.rome.kptr = 0
  /-- `COMPLETE` means that the whole image has been streamed (47_rom_emulator.md R334, R326). -/
  completeKptr : s.rome.rst = .complete → s.rome.kptr.toNat = s.cfg.kernelImage.length
  /-- Before `COMPLETE` bytes remain, or the image is empty. -/
  loadingKptr : s.rome.rst = .bootActive ∨ s.rome.rst = .kernelLoading →
    s.rome.kptr.toNat < s.cfg.kernelImage.length ∨ s.cfg.kernelImage.length = 0

/-- The fields of a transaction word that an encoding names: `www`, `oooo` and `rrrrrrr` (30_encoding.md R122). -/
def Txn.window (t : Txn) : WinNo := (Txn.addr t).extractLsb' 4 3

def Txn.offset (t : Txn) : BitVec 4 := (Txn.addr t).extractLsb' 0 4

def Txn.register (t : Txn) : BitVec 7 := (Txn.addr t).extractLsb' 0 7

/-- The "Encoding" line of an instruction's rule: in phase NORMAL every word with `T & mask = match` that meets the rule's
constraint is the instruction `i` (30_encoding.md R121, R123). -/
def NormalEncoding (mask pattern : Txn) (constraint : Txn → Prop) (i : Txn → Instr) : Prop :=
  ∀ (p : Params) (rst : RomeState) (t : Txn), t &&& mask = pattern → constraint t → decode p .normal rst t = i t

/-- The next event is a host bus cycle that carries the word `t` and is not lost to an overrun. -/
def nextCycleIs (s : State) (t : Txn) : Prop :=
  ∃ p overrun, s.nextEvent = .busCycle p overrun ∧ (s.phase = .normal → overrun = false)
    ∧ ((BusPins.direction p = .read ∧ t = mkTxn false p.d p.a)
      ∨ (BusPins.direction p = .write ∧ t = mkTxn true p.d p.a))

/-- The next event re-establishes the reset state: power-on reset, or a bus cycle that runs `SYSTEM_RESET`
(70_reset_and_hazards.md R381). -/
def nextIsReset (s : State) : Prop :=
  s.nextEvent = .powerOn ∨
    ∃ t, nextCycleIs s t ∧ decode s.cfg s.phase s.rome.rst t = .scmdSystemReset

/-- The next event is a host write that stores to arena offset `a`: a `DATA_PORT` write that is not lost, at a valid
address (42_ime_data_port.md R182). -/
def nextStoresAt (s : State) (a : Nat) : Prop :=
  ∃ t w d, nextCycleIs s t ∧ decode s.cfg s.phase s.rome.rst t = .wrDataPort w d
    ∧ a = s.effectiveAddress w ∧ addressValid a = true

/-- What the running copy has transferred stands at its destination (45_dma_icq.md R268, R271). -/
def copyDelivered (s : State) : Prop :=
  s.dma.active = true → ∀ k ∈ s.dma.done, s.dma.snap[k]? = some (s.arenaByte (s.dma.dst.toNat + k))

/-- An arena offset lies in the `n` bytes from `base`. -/
def inRange (base n a : Nat) : Prop := base ≤ a ∧ a < base + n

/-- The steps of the agents that act on their own (45_dma_icq.md R263, 47_rom_emulator.md R322, R323, R328). An external
raise is not among them, though decision D2 counts it as an agent step: a collaborator may raise and need not (DESIGN
CHOICE, notes/assumptions/27.md). -/
def Event.isAgentStep : Event → Bool
  | .dispatch => true
  | .transfer _ => true
  | .complete => true
  | .startBoot => true
  | .releaseReset => true
  | .handOff => true
  | .powerOn => false
  | .busCycle _ _ => false
  | .extRaise _ => false

/-- The state with one event offered, and no other to come. -/
def State.offer (s : State) (e : Event) : State := { s with inbox := [e] }

/-- An infinite run of the machine under a schedule: in step `n` the event `ev n` is offered, and happens. -/
def IsRun (run : Nat → State) (ev : Nat → Event) : Prop := ∀ n, step ((run n).offer (ev n)) = .next (run (n + 1))

/-- Weak fairness of every agent step (45_dma_icq.md R263): a step that stays enabled is taken at last. It asks nothing of
external raises, which R263 does not list and decision D2 does (DESIGN CHOICE, notes/assumptions/27.md). -/
def WeaklyFair (run : Nat → State) (ev : Nat → Event) : Prop :=
  ∀ e, Event.isAgentStep e = true → ∀ n, (∀ m, n ≤ m → Event.enabled (run m) e = true) → ∃ m, n ≤ m ∧ ev m = e

/-- The machine's state after `k` steps, where none of them stops. -/
def after (k : Nat) (s : State) : Option State :=
  match k with
  | 0 => some s
  | k + 1 => match step s with
    | .next t => after k t
    | .fault _ => none
    | .refused _ => none

/-- The bytes on the data bus after each of the next `k` steps, and the state after them. -/
def readsOf (k : Nat) (s : State) : List (Option Byte) × Option State :=
  match k with
  | 0 => ([], some s)
  | k + 1 => match step s with
    | .next t => (t.dataBus :: (readsOf k t).1, (readsOf k t).2)
    | .fault _ => ([], none)
    | .refused _ => ([], none)

/-- A host read cycle at a local address, with no overrun. -/
def readAt (a : Byte) : Event := .busCycle (Txn.pins (mkTxn false 0 a)) false

/-- A host write cycle at a local address, with no overrun. -/
def writeAt (a d : Byte) : Event := .busCycle (Txn.pins (mkTxn true d a)) false

/-- What a correct bootloader does (47_rom_emulator.md R337): status, data, status, data, and so on for `n` bytes, then
the status read that ends the loop. -/
def bootloaderReads (p : Params) : Nat → List Event
  | 0 => [readAt p.kstatusAddr]
  | n + 1 => readAt p.kstatusAddr :: readAt p.kdataAddr :: bootloaderReads p n

/-- What those reads return for a kernel image: 1 and a byte while bytes remain, then 0 (R333, R334). -/
def bootloaderSees : List Byte → List (Option Byte)
  | [] => [some 0x00]
  | b :: rest => some 0x01 :: some b :: bootloaderSees rest

end Sys2Proof.Machine
end

