-- ==== Sys2Proof/Certificates/Slice0/Obligations.lean ====
section
/-! DEFINITION. The statements for the provers. "Derived" statements rest on the spec's own decisions (92_eei_decisions.md),
which each docstring names; a statement that rests on a choice of the model names its log entry. -/

open Sys2Proof Sys2Proof.Machine Host

/-! ### Encoding -/

/-- Decoding the word of a well-formed instruction, in a phase and ROME state its row decodes in, gives it back: every
constructor, every operand (30_encoding.md R110 to R121, 47_rom_emulator.md R321, R324). -/
def Obligations.DecodeOfEncodeIsInstr : Prop :=
  ∀ (p : Params) (ph : Phase) (rst : RomeState) (i : Instr), Params.valid p = true → i.wf p = true →
    i.decodesIn ph rst = true → decode p ph rst (encode p i) = i

/-- "every word selects exactly one row of opcode_table.json" (30_encoding.md section 4, R121, marked derived by the
spec): in every phase and ROME state some row selects a word, and the rows that do are those of the decoded
instruction's mnemonic. -/
def Obligations.EveryWordSelectsItsRow : Prop :=
  ∀ (p : Params) (ph : Phase) (rst : RomeState) (t : Txn), Params.valid p = true → tableAddressesApply p →
    (∃ row ∈ opcodeRows, row.selects p ph rst t = true)
      ∧ ∀ row ∈ opcodeRows, (row.selects p ph rst t = true ↔ row.mnemonic = (decode p ph rst t).mnemonic)

/-- Whatever decodes is well formed, and decodes in the phase and ROME state it was decoded in: the rows' constraints
and phases (30_encoding.md section 4) and the ROME map and serving states (47_rom_emulator.md section 1). -/
def Obligations.DecodedInstrIsWellFormed : Prop :=
  ∀ (p : Params) (ph : Phase) (rst : RomeState) (t : Txn),
    (decode p ph rst t).wf p = true ∧ (decode p ph rst t).decodesIn ph rst = true

/-- Encoding what a word decodes to gives the word back, but for the data bits of a served read, whose canonical value
is 0 (30_encoding.md R110). No bit of a write or of an address is dropped. -/
def Obligations.EncodeOfDecodeIsCanonicalWord : Prop :=
  ∀ (p : Params) (ph : Phase) (rst : RomeState) (t : Txn),
    encode p (decode p ph rst t)
      = if Txn.isWrite t = true ∨ (ph = .boot ∧ rst.serving = false) then t else mkTxn false 0 (Txn.addr t)

/-- 30_encoding.md R111: bit 7 of the address tells shared registers from windows; window and offset are
`(a >> 4) & 7` and `a & 15`; the register is `a & 0x7F`; and the rule's four worked decodes. -/
def Obligations.AddressDecodeFormulas : Prop :=
  (∀ t : Txn, Txn.addr t &&& 0x80 = 0 → ∃ (w : WinNo) (o : BitVec 4),
      w.toNat = ((Txn.addr t >>> 4) &&& 7).toNat ∧ o.toNat = (Txn.addr t &&& 15).toNat
        ∧ decodeNormal t = decodeWindow (Txn.isWrite t) w o (Txn.data t))
    ∧ (∀ t : Txn, Txn.addr t &&& 0x80 ≠ 0 → ∃ r : BitVec 7,
      r.toNat = (Txn.addr t &&& 0x7F).toNat ∧ decodeNormal t = decodeShared (Txn.isWrite t) r (Txn.data t))
    ∧ decodeNormal 0x0000F = .rdWinReserved 0 15 ∧ decodeNormal 0x00010 = .rdIdxSelect 1
    ∧ decodeNormal 0x0007F = .rdWinReserved 7 15 ∧ decodeNormal 0x00080 = .rdSharedReserved 0

/-- A few words of 95_test_vectors.md section 2.1 decode to the instructions that the vectors name. -/
def Obligations.SpecVectorsDecode : Prop :=
  decode Params.reference .normal .inactive 0x00031 = .rdDataPort 3
    ∧ decode Params.reference .normal .inactive 0x0AB01 = .rdDataPort 0
    ∧ decode Params.reference .normal .inactive 0x1FF34 = .cmdUnknown 3 0xFF
    ∧ decode Params.reference .normal .inactive 0x106FF = .scmdUnknown 0x06
    ∧ decode Params.reference .normal .inactive 0x10475 = .wrWinReserved 7 5 0x04
    ∧ decode Params.reference .normal .inactive 0x000FC = .rdSharedReserved 0x7C
    ∧ decode Params.reference .boot .bootActive 0x000FC = .romRdVectorLo
    ∧ decode Params.reference .boot .bootActive 0x105FF = .romWr 0xFF 0x05
    ∧ decode Params.reference .normal .inactive 0x105FF = .scmdSystemReset
    ∧ decode Params.reference .boot .resetSequence 0x000E0 = .romCycleNotServing 0x000E0

/-! ### Bus cycles and steps -/

/-- A step that takes a bus cycle which is not lost runs the instruction that the cycle's word decodes to in its
phase, on the state with that event taken (40_bus_frontend.md section 2, 30_encoding.md sections 2 and 4). That a
cycle of phase BOOT is never lost, though it is offered with an overrun, is the model's reading
(notes/assumptions/9.md). -/
def Obligations.StepRunsDecodedCycle : Prop :=
  ∀ (s : State) (t : Txn), nextCycleIs s t → step s = exec (decode s.cfg s.phase s.rome.rst t) s.popEvent

/-- A table word presented with `withFetchWord` is the very next instruction, on the state made ready for its phase,
with the data bus released before the cycle (the model's choice of the phase of a table word:
notes/assumptions/20.md). -/
def Obligations.FetchWordRunsTableInstr : Prop :=
  ∀ (s : State) (nbits w : Nat) (i : Instr), s.cfg = Params.reference → decodeTableWord nbits w = some i →
    step (s.withFetchWord nbits w) = exec i (s.readyFor (tableWordPhase (BitVec.ofNat 17 (w % 2 ^ nbits)))).release

/-- An overrun cycle is lost (40_bus_frontend.md section 5, decision D22): MEMORY_ERROR and cause bit 0 are set, the
line is re-evaluated, a read latches a free byte, and nothing else changes. -/
def Obligations.LostCycleOnlySignals : Prop :=
  ∀ (s : State) (p : BusPins), s.phase = .normal → s.nextEvent = .busCycle p true →
    (BusPins.direction p = .read ∨ BusPins.direction p = .write) →
    ∃ t, step s = .next t ∧ t.st = { s.st with memerr := true }
      ∧ t.irq.cause = s.irq.cause ||| 0x0001 ∧ t.irq.mask = s.irq.mask ∧ t.irq.enable = s.irq.enable
      ∧ t.irq.line = t.irq.pending
      ∧ (BusPins.direction p = .read → t.dataBus = some (Config.busDraw s.popEvent.draws)
          ∧ t.draws = s.popEvent.draws + 1)
      ∧ (BusPins.direction p = .write → t.dataBus = none ∧ t.draws = s.popEvent.draws)
      ∧ t = { s.popEvent with st := t.st, irq := t.irq, dataBus := t.dataBus, draws := t.draws }

/-- Cycles with no direction or with two (40_bus_frontend.md section 5, decision D3): with neither `OE` nor `WE` the
state is unchanged and the bus not driven; with both the machine faults. That the direction lines are judged in phase
BOOT too, and before the overrun draw, so that both clauses hold in both phases and with either draw, and that a cycle
of another device, with chip-select not asserted, changes nothing and leaves the bus undriven, is the model's reading
(notes/assumptions/8.md). -/
def Obligations.CyclesWithoutOneDirection : Prop :=
  ∀ (s : State) (a d : Byte) (overrun : Bool),
    (s.nextEvent = .busCycle ⟨false, true, true, a, d⟩ overrun → step s = .next { s.popEvent with dataBus := none })
      ∧ (s.nextEvent = .busCycle ⟨false, false, false, a, d⟩ overrun → step s = .fault .busDirectionConflict)
      ∧ ∀ oeN weN, s.nextEvent = .busCycle ⟨true, oeN, weN, a, d⟩ overrun → step s = .next s.popEvent

/-! ### Window latches and registers without effect -/

/-- 41_register_decode_window.md R160 and R164, with their encodings: the two reads complete in every state, return the
active index and 0x00, and change nothing else. -/
def Obligations.WindowIndexAndReservedReads : Prop :=
  (∀ (w : WinNo) (o : BitVec 4) (s : State),
    exec (.rdIdxSelect w) s = .next { s with dataBus := some (s.window w).idx }
      ∧ exec (.rdWinReserved w o) s = .next { s with dataBus := some 0x00 })
    ∧ NormalEncoding 0x1008F 0x00000 (fun _ => True) (fun t => .rdIdxSelect (Txn.window t))
    ∧ NormalEncoding 0x10080 0x00000 (fun t => 5 ≤ (Txn.offset t).toNat)
        (fun t => .rdWinReserved (Txn.window t) (Txn.offset t))

/-- Reads of the selector (41_register_decode_window.md section 2, decision D5), of the two write-only command
registers (41_register_decode_window.md section 3, 44_commands.md section 2, decision D4), and of the mask and the
enable (46_irq_controller.md section 4, decisions D13, D31), bit by bit: each completes in every state and changes
nothing but the data bus. -/
def Obligations.SelectorCommandMaskAndEnableReads : Prop :=
  ∀ (w : WinNo) (s : State),
    exec (.rdCfgFieldSelect w) s = .next { s with dataBus := some (s.window w).sel }
      ∧ exec (.rdCommand w) s = .next { s with dataBus := some 0x00 }
      ∧ exec .rdSharedCommand s = .next { s with dataBus := some 0x00 }
      ∧ exec .rdIrqEnable s = .next { s with dataBus := some (if s.irq.enable = true then 0x01 else 0x00) }
      ∧ ∃ lo hi : Byte, exec .rdIrqMaskLow s = .next { s with dataBus := some lo }
        ∧ exec .rdIrqMaskHigh s = .next { s with dataBus := some hi }
        ∧ ∀ j, j < 8 → lo.getLsbD j = s.irq.mask.getLsbD j ∧ hi.getLsbD j = s.irq.mask.getLsbD (j + 8)

/-- 41_register_decode_window.md R161, with its encoding: the written byte becomes the window's index; its selector and
every other window and all else are unchanged. -/
def Obligations.IdxSelectWriteSetsOneLatch : Prop :=
  (∀ (w : WinNo) (d : Byte) (s : State), ∃ t, exec (.wrIdxSelect w d) s = .next t
    ∧ (t.window w).idx = d ∧ (t.window w).sel = (s.window w).sel
    ∧ (∀ v, v ≠ w → t.window v = s.window v) ∧ t = { s with win := t.win, dataBus := none })
    ∧ NormalEncoding 0x1008F 0x10000 (fun _ => True) (fun t => .wrIdxSelect (Txn.window t) (Txn.data t))

/-- `CFG_FIELD_SELECT` writes (41_register_decode_window.md section 2, decisions D5 and D6): all eight bits are stored,
and nothing else changes. -/
def Obligations.CfgFieldSelectWriteSetsOneLatch : Prop :=
  ∀ (w : WinNo) (d : Byte) (s : State), ∃ t, exec (.wrCfgFieldSelect w d) s = .next t
    ∧ (t.window w).sel = d ∧ (t.window w).idx = (s.window w).idx
    ∧ (∀ v, v ≠ w → t.window v = s.window v) ∧ t = { s with win := t.win, dataBus := none }

/-- The writes with no effect: reserved window offsets (R165), the two NOPs (R230, R240), unknown opcodes (R234, R246),
reserved shared addresses (R309) and every write in a serving state of phase BOOT (R335), with their encodings. -/
def Obligations.WritesWithoutEffect : Prop :=
  (∀ (w : WinNo) (o : BitVec 4) (r : BitVec 7) (a d : Byte) (s : State),
    exec (.wrWinReserved w o d) s = .next { s with dataBus := none }
      ∧ exec (.cmdNop w) s = .next { s with dataBus := none }
      ∧ exec (.cmdUnknown w d) s = .next { s with dataBus := none }
      ∧ exec .scmdNop s = .next { s with dataBus := none }
      ∧ exec (.scmdUnknown d) s = .next { s with dataBus := none }
      ∧ exec (.wrSharedReserved r d) s = .next { s with dataBus := none }
      ∧ exec (.romWr a d) s = .next { s with dataBus := none })
    ∧ NormalEncoding 0x10080 0x10000 (fun t => 5 ≤ (Txn.offset t).toNat)
        (fun t => .wrWinReserved (Txn.window t) (Txn.offset t) (Txn.data t))
    ∧ NormalEncoding 0x1FF8F 0x10004 (fun _ => True) (fun t => .cmdNop (Txn.window t))
    ∧ NormalEncoding 0x1008F 0x10004 (fun t => 4 ≤ (Txn.data t).toNat)
        (fun t => .cmdUnknown (Txn.window t) (Txn.data t))
    ∧ NormalEncoding 0x1FFFF 0x100FF (fun _ => True) (fun _ => .scmdNop)
    ∧ NormalEncoding 0x100FF 0x100FF (fun t => 6 ≤ (Txn.data t).toNat) (fun t => .scmdUnknown (Txn.data t))
    ∧ NormalEncoding 0x10080 0x10080 (fun t => Txn.addr t ∉ recognisedAddrs)
        (fun t => .wrSharedReserved (Txn.register t) (Txn.data t))
    ∧ ∀ (p : Params) (rst : RomeState) (t : Txn), rst.serving = true → t &&& 0x10000 = 0x10000 →
        decode p .boot rst t = .romWr (Txn.addr t) (Txn.data t)

/-- The only things that write a window's latches are the `IDX_SELECT` and `CFG_FIELD_SELECT` registers of that window
and a reset (41_register_decode_window.md section 4, decision D14). -/
def Obligations.OnlyOwnRegistersWriteLatches : Prop :=
  ∀ (s t : State) (w : WinNo), step s = .next t → ¬ nextIsReset s → t.window w ≠ s.window w →
    ∃ (x : Txn) (d : Byte), nextCycleIs s x
      ∧ (decode s.cfg s.phase s.rome.rst x = .wrIdxSelect w d
        ∨ decode s.cfg s.phase s.rome.rst x = .wrCfgFieldSelect w d)

/-! ### DATA_PORT -/

/-- 42_ime_data_port.md R181, with its encoding, both cases: at a valid address the read returns the arena byte and
steps the cursor only where `AUTO_STEP` is set; at an invalid one it returns 0x00, sets MEMORY_ERROR and cause bit 0,
and no cursor changes. -/
def Obligations.DataPortReadServesOrSignals : Prop :=
  (∀ (w : WinNo) (s : State),
    ((s.cursor (s.window w).idx).current.toNat < 0x40000 → ∃ t, exec (.rdDataPort w) s = .next t
      ∧ t.dataBus = some (s.arenaByte (s.cursor (s.window w).idx).current.toNat)
      ∧ t.cursor (s.window w).idx
          = (if (s.cursor (s.window w).idx).flags &&& 0x01 ≠ 0 then Cursor.stepped (s.cursor (s.window w).idx)
             else s.cursor (s.window w).idx)
      ∧ (∀ j, j ≠ (s.window w).idx → t.cursor j = s.cursor j)
      ∧ t = { s with cur := t.cur, dataBus := t.dataBus })
    ∧ (0x40000 ≤ (s.cursor (s.window w).idx).current.toNat → ∃ t, exec (.rdDataPort w) s = .next t
      ∧ t.dataBus = some 0x00 ∧ t.st = { s.st with memerr := true }
      ∧ t.irq.cause = s.irq.cause ||| 0x0001 ∧ t.irq.mask = s.irq.mask ∧ t.irq.enable = s.irq.enable
      ∧ t.irq.line = t.irq.pending ∧ t = { s with st := t.st, irq := t.irq, dataBus := t.dataBus }))
    ∧ NormalEncoding 0x1008F 0x00001 (fun _ => True) (fun t => .rdDataPort (Txn.window t))

/-- 42_ime_data_port.md R182, with its encoding, both cases: at a valid address the byte is stored at the unstepped
`current`, every other arena byte is unchanged, and the cursor steps once where `AUTO_STEP` is set; at an invalid one
the write is skipped, the error is signalled, and no cursor changes. A running copy is touched only at a source byte
it has yet to transfer. -/
def Obligations.DataPortWriteStoresOrSignals : Prop :=
  (∀ (w : WinNo) (d : Byte) (s : State),
    ((s.cursor (s.window w).idx).current.toNat < 0x40000 → ∃ t, exec (.wrDataPort w d) s = .next t
      ∧ t.arenaByte (s.cursor (s.window w).idx).current.toNat = d
      ∧ (∀ b, b ≠ (s.cursor (s.window w).idx).current.toNat → t.arenaByte b = s.arenaByte b)
      ∧ t.cursor (s.window w).idx
          = (if (s.cursor (s.window w).idx).flags &&& 0x01 ≠ 0 then Cursor.stepped (s.cursor (s.window w).idx)
             else s.cursor (s.window w).idx)
      ∧ (∀ j, j ≠ (s.window w).idx → t.cursor j = s.cursor j)
      ∧ (s.sourcePending (s.cursor (s.window w).idx).current.toNat = false → t.dma = s.dma ∧ t.draws = s.draws)
      ∧ t = { s with arena := t.arena, cur := t.cur, dma := t.dma, draws := t.draws, dataBus := none })
    ∧ (0x40000 ≤ (s.cursor (s.window w).idx).current.toNat → ∃ t, exec (.wrDataPort w d) s = .next t
      ∧ t.st = { s.st with memerr := true }
      ∧ t.irq.cause = s.irq.cause ||| 0x0001 ∧ t.irq.mask = s.irq.mask ∧ t.irq.enable = s.irq.enable
      ∧ t.irq.line = t.irq.pending ∧ t = { s with st := t.st, irq := t.irq, dataBus := none }))
    ∧ NormalEncoding 0x1008F 0x10001 (fun _ => True) (fun t => .wrDataPort (Txn.window t) (Txn.data t))

/-- A host write to a source byte that the running copy has yet to transfer (45_dma_icq.md section 3, decision D21): the
copy delivers the old or the new byte at that offset, which of the two is free, and keeps every other byte. -/
def Obligations.SourceWriteRacesWithCopy : Prop :=
  ∀ (w : WinNo) (d : Byte) (s : State) (k : Nat),
    s.dma.active = true → k < s.dma.count.toNat → k ∉ s.dma.done →
    (s.cursor (s.window w).idx).current.toNat = s.dma.src.toNat + k → s.dma.src.toNat + k < 0x40000 →
    ∃ t, exec (.wrDataPort w d) s = .next t ∧ t.arenaByte (s.dma.src.toNat + k) = d
      ∧ t.dma = { s.dma with snap := t.dma.snap }
      ∧ (t.dma.snap = s.dma.snap ∨ t.dma.snap = s.dma.snap.set k d)

/-- 42_ime_data_port.md R183: the forward step, for a cursor at a valid address. -/
def Obligations.ForwardStepAddsOrWraps : Prop :=
  ∀ c : Cursor, c.flags &&& 0x02 = 0 → c.current.toNat < 0x40000 →
    Cursor.stepped c = { c with current := (Cursor.stepped c).current }
      ∧ (Cursor.stepped c).current.toNat
          = if c.flags &&& 0x04 ≠ 0 ∧ c.limit.toNat ≤ c.current.toNat + c.step.toNat then c.dflt.toNat
            else c.current.toNat + c.step.toNat

/-- 42_ime_data_port.md R184 (conflict C1): the backward step, compared as a signed value, truncated to 24 bits when it
is written back. -/
def Obligations.BackwardStepSubtractsOrWraps : Prop :=
  ∀ c : Cursor, c.flags &&& 0x02 ≠ 0 →
    Cursor.stepped c = { c with current := (Cursor.stepped c).current }
      ∧ (Cursor.stepped c).current.toNat
          = if c.flags &&& 0x04 ≠ 0 ∧ (c.current.toNat : Int) - c.step.toNat < c.limit.toNat then c.dflt.toNat
            else if c.step.toNat ≤ c.current.toNat then c.current.toNat - c.step.toNat
            else c.current.toNat + 0x1000000 - c.step.toNat

/-- The round-trip law of 42_ime_data_port.md section 4: with `AUTO_STEP` clear, a write and then a read through any
window that selects the cursor return the byte written, the cursors unchanged. -/
def Obligations.WriteThenReadReturnsByte : Prop :=
  ∀ (w v : WinNo) (d : Byte) (s : State), (s.window v).idx = (s.window w).idx →
    (s.cursor (s.window w).idx).flags &&& 0x01 = 0 → (s.cursor (s.window w).idx).current.toNat < 0x40000 →
    ∃ t u, exec (.wrDataPort w d) s = .next t ∧ exec (.rdDataPort v) t = .next u
      ∧ u.dataBus = some d ∧ u.cur = s.cur ∧ u.st = s.st ∧ u.irq = s.irq

/-- A step past the arena is found at the next access, and stays found (42_ime_data_port.md sections 1 to 3,
70_reset_and_hazards.md section 2). The `DATA_PORT` access, read or write, whose step leaves an invalid `current`
(forward, by a backward underflow, or by a wrap to an invalid default) succeeds. Every `DATA_PORT` access, read or
write, through any window that selects a cursor with an invalid `current` signals, reads 0x00 or stores nothing, and
changes no cursor and no window, so that the next access does the same. And no step makes `current` of such a cursor
another address but a reset, a `CFG_DATA` write of it, `RESET_INDEX` on it, `RESET_ALL_IDX` and
`FACTORY_RESET_ALL_IDX`. -/
def Obligations.StepPastArenaFoundLater : Prop :=
  (∀ (w : WinNo) (d : Byte) (s : State) (i : Instr), (i = .rdDataPort w ∨ i = .wrDataPort w d) →
    (s.cursor (s.window w).idx).flags &&& 0x01 ≠ 0 → (s.cursor (s.window w).idx).current.toNat < 0x40000 →
    0x40000 ≤ (Cursor.stepped (s.cursor (s.window w).idx)).current.toNat →
    ∃ t, exec i s = .next t ∧ t.st = s.st ∧ t.irq = s.irq ∧ t.win = s.win
      ∧ 0x40000 ≤ (t.cursor (s.window w).idx).current.toNat)
    ∧ (∀ (v : WinNo) (d : Byte) (s : State), 0x40000 ≤ (s.cursor (s.window v).idx).current.toNat →
      ∃ t u, exec (.rdDataPort v) s = .next t ∧ exec (.wrDataPort v d) s = .next u
        ∧ t.dataBus = some 0x00 ∧ u.dataBus = none ∧ u = { t with dataBus := none }
        ∧ t.st.memerr = true ∧ t.irq.cause.getLsbD 0 = true ∧ t.cur = s.cur ∧ t.win = s.win
        ∧ t.dma = s.dma ∧ ∀ a, t.arenaByte a = s.arenaByte a)
    ∧ ∀ (s t : State) (j : CurNo), step s = .next t → ¬ nextIsReset s → 0x40000 ≤ (s.cursor j).current.toNat →
      (t.cursor j).current ≠ (s.cursor j).current →
      ∃ x, nextCycleIs s x ∧ (decode s.cfg s.phase s.rome.rst x = .scmdResetAllIdx
        ∨ decode s.cfg s.phase s.rome.rst x = .scmdFactoryResetAllIdx
        ∨ ∃ w, (s.window w).idx = j ∧ (decode s.cfg s.phase s.rome.rst x = .cmdResetIndex w
          ∨ ((s.window w).sel.toNat ≤ 2 ∧ ∃ d, decode s.cfg s.phase s.rome.rst x = .wrCfgData w d)))

/-! ### CFG_DATA -/

/-- `CFG_DATA` reads (43_ime_config.md sections 1 and 2, decisions D7 and D35), for every selector that names a byte:
the byte of the selected cursor's field or of the shared DMA-config record; nothing but the data bus changes. -/
def Obligations.CfgDataReadsSelectedByte : Prop :=
  ∀ (w : WinNo) (s : State), ∃ v : Byte, exec (.rdCfgData w) s = .next { s with dataBus := some v }
    ∧ ((s.window w).sel.toNat < 3 → v.toNat
        = (s.cursor (s.window w).idx).current.toNat / 2 ^ (8 * (s.window w).sel.toNat) % 256)
    ∧ (3 ≤ (s.window w).sel.toNat → (s.window w).sel.toNat < 6 → v.toNat
        = (s.cursor (s.window w).idx).dflt.toNat / 2 ^ (8 * ((s.window w).sel.toNat - 3)) % 256)
    ∧ (6 ≤ (s.window w).sel.toNat → (s.window w).sel.toNat < 9 → v.toNat
        = (s.cursor (s.window w).idx).limit.toNat / 2 ^ (8 * ((s.window w).sel.toNat - 6)) % 256)
    ∧ ((s.window w).sel = 9 → v = (s.cursor (s.window w).idx).step)
    ∧ ((s.window w).sel = 10 → v = (s.cursor (s.window w).idx).flags)
    ∧ ((s.window w).sel = 11 → v = s.dmacfg.srcIdx)
    ∧ ((s.window w).sel = 12 → v = s.dmacfg.dstIdx)
    ∧ (13 ≤ (s.window w).sel.toNat → (s.window w).sel.toNat < 15 → v.toNat
        = s.dmacfg.count.toNat / 2 ^ (8 * ((s.window w).sel.toNat - 13)) % 256)

/-- `CFG_DATA` writes (43_ime_config.md sections 1 and 2, decisions D7 and D35): the byte that the selector names
takes the written value; every other byte of every cursor and of the record keeps its value, and all else is
unchanged. -/
def Obligations.CfgDataWriteReplacesOneByte : Prop :=
  ∀ (w : WinNo) (d : Byte) (s : State), (s.window w).sel.toNat ≤ 14 → ∃ t, exec (.wrCfgData w d) s = .next t
    ∧ t.cfgRead (s.window w).idx (cfgField (s.window w).sel) = d
    ∧ (∀ sel : Byte, sel ≠ (s.window w).sel →
        t.cfgRead (s.window w).idx (cfgField sel) = s.cfgRead (s.window w).idx (cfgField sel))
    ∧ (∀ j, j ≠ (s.window w).idx → t.cursor j = s.cursor j)
    ∧ ((s.window w).sel.toNat ≤ 10 → t.dmacfg = s.dmacfg) ∧ (11 ≤ (s.window w).sel.toNat → t.cur = s.cur)
    ∧ t = { s with cur := t.cur, dmacfg := t.dmacfg, dataBus := none }

/-- 43_ime_config.md R214: a selector from 15 to 255 reads 0x00, and a write through it has no effect. -/
def Obligations.SelectorOutOfRangeHasNoEffect : Prop :=
  ∀ (w : WinNo) (d : Byte) (s : State), 15 ≤ (s.window w).sel.toNat →
    exec (.rdCfgData w) s = .next { s with dataBus := some 0x00 }
      ∧ exec (.wrCfgData w d) s = .next { s with dataBus := none }

/-- The round-trip law of 43_ime_config.md section 2, with the six cycles of each half: writing the three bytes of a
24-bit field (`base` 0, 3 or 6) and reading them back return the bytes written. -/
def Obligations.CfgAddressBytesRoundTrip : Prop :=
  ∀ (s : State) (w : WinNo) (base b0 b1 b2 : Byte) (rest : List Event), s.phase = .normal →
    (base = 0 ∨ base = 3 ∨ base = 6) →
    s.inbox = writeAt (windowAddr w 2) base :: writeAt (windowAddr w 3) b0
      :: writeAt (windowAddr w 2) (base + 1) :: writeAt (windowAddr w 3) b1
      :: writeAt (windowAddr w 2) (base + 2) :: writeAt (windowAddr w 3) b2
      :: writeAt (windowAddr w 2) base :: readAt (windowAddr w 3)
      :: writeAt (windowAddr w 2) (base + 1) :: readAt (windowAddr w 3)
      :: writeAt (windowAddr w 2) (base + 2) :: readAt (windowAddr w 3) :: rest →
    (readsOf 12 s).1 = [none, none, none, none, none, none, none, some b0, none, some b1, none, some b2]

/-! ### Commands -/

/-- 44_commands.md R231 and R232, with their encodings: the one field of the active cursor changes, and nothing else. -/
def Obligations.ResetIndexAndSetDefault : Prop :=
  (∀ (w : WinNo) (s : State),
    (∃ t, exec (.cmdResetIndex w) s = .next t
      ∧ t.cursor (s.window w).idx
          = { s.cursor (s.window w).idx with current := (s.cursor (s.window w).idx).dflt }
      ∧ (∀ j, j ≠ (s.window w).idx → t.cursor j = s.cursor j) ∧ t = { s with cur := t.cur, dataBus := none })
    ∧ ∃ t, exec (.cmdSetDefaultToAddr w) s = .next t
      ∧ t.cursor (s.window w).idx
          = { s.cursor (s.window w).idx with dflt := (s.cursor (s.window w).idx).current }
      ∧ (∀ j, j ≠ (s.window w).idx → t.cursor j = s.cursor j) ∧ t = { s with cur := t.cur, dataBus := none })
    ∧ NormalEncoding 0x1FF8F 0x10104 (fun _ => True) (fun t => .cmdResetIndex (Txn.window t))
    ∧ NormalEncoding 0x1FF8F 0x10204 (fun _ => True) (fun t => .cmdSetDefaultToAddr (Txn.window t))

/-- `SET_LIMIT_TO_ADDR` (44_commands.md section 1): the limit becomes the current address, nothing else changes, and
with forward wrap set the next step returns to the default (the rule's corner case, derived by the spec). -/
def Obligations.SetLimitMakesNextStepWrap : Prop :=
  ∀ (w : WinNo) (s : State), ∃ t, exec (.cmdSetLimitToAddr w) s = .next t
    ∧ t.cursor (s.window w).idx = { s.cursor (s.window w).idx with limit := (s.cursor (s.window w).idx).current }
    ∧ (∀ j, j ≠ (s.window w).idx → t.cursor j = s.cursor j) ∧ t = { s with cur := t.cur, dataBus := none }
    ∧ ((s.cursor (s.window w).idx).flags &&& 0x06 = 0x04 →
        (Cursor.stepped (t.cursor (s.window w).idx)).current = (s.cursor (s.window w).idx).dflt)

/-- 44_commands.md R241, with its encoding: every cursor's `current` becomes its default; all else is unchanged. -/
def Obligations.ResetAllIndexesToDefaults : Prop :=
  (∀ s : State, ∃ t, exec .scmdResetAllIdx s = .next t
    ∧ (∀ i, t.cursor i = { s.cursor i with current := (s.cursor i).dflt }) ∧ t = { s with cur := t.cur, dataBus := none })
    ∧ NormalEncoding 0x1FFFF 0x101FF (fun _ => True) (fun _ => .scmdResetAllIdx)

/-- `FACTORY_RESET_ALL_IDX` (44_commands.md section 2, decisions D13 to D15): the IRQ state takes its reset values,
every cursor its record of the table, the palette banks at `PALETTE_BASE` (`Params.cursorRecord`,
notes/assumptions/2.md); windows, `dmacfg`, the arena, the ICQ and a running copy are unchanged, and so is
MEMORY_ERROR unless `MEMERR_CLEAR_EVENTS` names the command (decision D11; which events can be named is
notes/assumptions/11.md). -/
def Obligations.FactoryResetRestoresCursorsAndIrq : Prop :=
  ∀ s : State, ∃ t, exec .scmdFactoryResetAllIdx s = .next t
    ∧ t.irq = { cause := 0x0000, mask := s.cfg.irqMaskReset, enable := s.cfg.irqEnableReset, line := false }
    ∧ (∀ i, t.cursor i = Params.cursorRecord s.cfg i.toNat (s.cfg.defaultTable.get ⟨i.toNat, i.isLt⟩))
    ∧ t.st = { s.st with memerr := s.st.memerr && !s.cfg.memerrClearEvents.contains .factoryReset }
    ∧ t = { s with irq := t.irq, cur := t.cur, st := t.st, dataBus := none }

/-- `CLEAR_IRQ` (44_commands.md section 2): the cause is cleared and the line is deasserted; mask, enable and all else
are unchanged, MEMORY_ERROR unless `MEMERR_CLEAR_EVENTS` names the command (decision D11; which events can be named is
notes/assumptions/11.md). The same parameter decides for a write to `DEVICE_STATUS`, which otherwise has no effect. -/
def Obligations.ClearIrqAndStatusWrite : Prop :=
  ∀ (d : Byte) (s : State),
    exec .scmdClearIrq s = .next
      { s with
        irq := { s.irq with cause := 0x0000, line := false }
        st := { s.st with memerr := s.st.memerr && !s.cfg.memerrClearEvents.contains .clearIrq }
        dataBus := none }
    ∧ exec (.wrDeviceStatus d) s = .next
      { s with
        st := { s.st with memerr := s.st.memerr && !s.cfg.memerrClearEvents.contains .deviceStatusWrite }
        dataBus := none }

/-- 44_commands.md R244, with its encoding, and 45_dma_icq.md R261: the record is appended as it stands now where the
queue has room; a full queue drops the command with no signal. -/
def Obligations.CopyBlockQueuesOrDrops : Prop :=
  (∀ s : State,
    (s.icq.length < s.cfg.icqCapacity →
      exec .scmdCopyBlock s = .next { s with icq := s.icq ++ [s.dmacfg], dataBus := none })
    ∧ (s.cfg.icqCapacity ≤ s.icq.length → exec .scmdCopyBlock s = .next { s with dataBus := none }))
    ∧ NormalEncoding 0x1FFFF 0x104FF (fun _ => True) (fun _ => .scmdCopyBlock)

/-! ### Reset -/

/-- `SYSTEM_RESET` and a power-on event both leave the reset state of 10_state.md section 9 (decisions D11 to D16,
D23, D29, D36, D41), in the machine's own configuration; the arena and `host_reset` are fresh draws, and the palette
banks stand at `PALETTE_BASE` (notes/assumptions/2.md). -/
def Obligations.ResetsLeaveResetState : Prop :=
  ∀ s : State, ∃ t, exec .scmdSystemReset s = .next t
    ∧ (s.nextEvent = .powerOn →
        step s = .next { t with inbox := s.popEvent.inbox, draws := s.popEvent.draws })
    ∧ t.phase = .boot ∧ (∀ w, t.window w = ⟨0, 0⟩)
    ∧ (∀ i, t.cursor i = Params.cursorRecord s.cfg i.toNat (s.cfg.defaultTable.get ⟨i.toNat, i.isLt⟩))
    ∧ (∀ a, t.arenaByte a = Config.arenaDraw (s.epoch + 1) a) ∧ t.st = ⟨false, false, false⟩
    ∧ t.irq = ⟨0x0000, s.cfg.irqMaskReset, s.cfg.irqEnableReset, false⟩ ∧ t.dmacfg = ⟨0, 0, 0⟩ ∧ t.icq = []
    ∧ t.dma.active = false ∧ t.rome = ⟨.inactive, false, 0⟩
    ∧ t.out = ⟨Config.hostResetDraw (s.epoch + 1), false, false⟩ ∧ t.cfg = s.cfg

/-- The state right after power-on, in the reference configuration (10_state.md sections 6 and 9; the spec's decisions
D11 to D16, D23, D29, D36, D41), read through the model's accessors, with the status byte of vector RS1. -/
def Obligations.ResetStateValues : Prop :=
  State.reset.phase = .boot ∧ (∀ i, State.reset.cursor i = defaultCursor 0x16800 i.toNat)
    ∧ (∀ w, State.reset.window w = ⟨0, 0⟩) ∧ (∀ a, State.reset.arenaByte a = Config.arenaDraw 0 a)
    ∧ State.reset.st = ⟨false, false, false⟩ ∧ State.reset.irq = ⟨0x0000, 0xFFFF, true, false⟩
    ∧ State.reset.dmacfg = ⟨0, 0, 0⟩ ∧ State.reset.icq = [] ∧ State.reset.dma.active = false
    ∧ State.reset.rome = ⟨.inactive, false, 0⟩ ∧ State.reset.out.clkFast = false
    ∧ State.reset.out.bank = false ∧ State.reset.statusByte = 0x01

/-- The rows of the default cursor table (10_state.md section 6, decision D15), at the ends of the table's ranges, in
the order current, default, limit, step, flags; in any configuration a reset installs palette bank `k` at
`PALETTE_BASE` + 0x10·k (conflict C5, notes/assumptions/2.md) and every other row as `DEFAULT_TABLE` has it; and the
reference configuration is one the spec admits, whatever the opaque images hold: at most 0xE0 bootloader bytes and
65535 kernel bytes (47_rom_emulator.md section 1, decision D24; which checks `Params.valid` makes is
notes/assumptions/10.md). -/
def Obligations.ReferenceTableAndConfiguration : Prop :=
  defaultCursor 0x16800 0 = ⟨0x000800, 0x000800, 0x004800, 1, 0x01⟩
    ∧ defaultCursor 0x16800 16 = ⟨0x004800, 0x004800, 0x006000, 1, 0x05⟩
    ∧ defaultCursor 0x16800 23 = ⟨0x00F000, 0x00F000, 0x010800, 1, 0x05⟩
    ∧ defaultCursor 0x16800 32 = ⟨0x016800, 0x016800, 0x016810, 1, 0x05⟩
    ∧ defaultCursor 0x16800 47 = ⟨0x0168F0, 0x0168F0, 0x016900, 1, 0x05⟩
    ∧ defaultCursor 0x16800 51 = ⟨0x0174B8, 0x0174B8, 0x0178A0, 1, 0x05⟩
    ∧ defaultCursor 0x16800 55 = ⟨0x018458, 0x018458, 0x018840, 1, 0x05⟩
    ∧ defaultCursor 0x16800 56 = ⟨0x018840, 0x018840, 0x018C40, 4, 0x05⟩
    ∧ defaultCursor 0x16800 57 = ⟨0x018C40, 0x018C40, 0x018C41, 1, 0x04⟩
    ∧ defaultCursor 0x16800 64 = ⟨0x03C000, 0x03C000, 0x03C040, 1, 0x05⟩
    ∧ defaultCursor 0x16800 65 = ⟨0x03C040, 0x03C040, 0x03C041, 1, 0x04⟩
    ∧ defaultCursor 0x16800 84 = ⟨0x03C054, 0x03C054, 0x03C055, 1, 0x04⟩
    ∧ defaultCursor 0x16800 82 = ⟨0, 0, 0, 0, 0⟩
    ∧ (∀ i, 128 ≤ i → defaultCursor 0x16800 i = ⟨0x013800, 0x013800, 0x03C000, 1, 0x01⟩)
    ∧ (∀ (b : Addr) (i : Nat), (defaultCursor b i).current = (defaultCursor b i).dflt)
    ∧ (∀ (p : Params) (k : Nat) (c : Cursor), k < 16 → Params.cursorRecord p (32 + k) c
        = ⟨p.paletteBase + BitVec.ofNat 24 (0x10 * k), p.paletteBase + BitVec.ofNat 24 (0x10 * k),
            p.paletteBase + BitVec.ofNat 24 (0x10 * k + 0x10), 1, 0x05⟩)
    ∧ (∀ (p : Params) (i : Nat) (c : Cursor), i < 32 ∨ 47 < i → Params.cursorRecord p i c = c)
    ∧ Params.valid Params.reference = true

/-! ### Status and IRQ registers -/

/-- 46_irq_controller.md R297, R298 and R308, with their encodings: the two cause bytes, bit by bit, and 0x00 at a
reserved shared address; the reads clear nothing and change nothing but the data bus. -/
def Obligations.CauseAndSharedReservedReads : Prop :=
  (∀ (r : BitVec 7) (s : State), ∃ lo hi : Byte,
    exec .rdIrqCauseLow s = .next { s with dataBus := some lo }
      ∧ exec .rdIrqCauseHigh s = .next { s with dataBus := some hi }
      ∧ (∀ j, j < 8 → lo.getLsbD j = s.irq.cause.getLsbD j ∧ hi.getLsbD j = s.irq.cause.getLsbD (j + 8))
      ∧ exec (.rdSharedReserved r) s = .next { s with dataBus := some 0x00 })
    ∧ NormalEncoding 0x100FF 0x000F1 (fun _ => True) (fun _ => .rdIrqCauseLow)
    ∧ NormalEncoding 0x100FF 0x000F2 (fun _ => True) (fun _ => .rdIrqCauseHigh)
    ∧ NormalEncoding 0x10080 0x00080 (fun t => Txn.addr t ∉ recognisedAddrs)
        (fun t => .rdSharedReserved (Txn.register t))

/-- `DEVICE_STATUS` reads (46_irq_controller.md section 2, decisions D9, D10 and D12), for every layout with five
distinct places: the five bits at their places, every other bit 0, and nothing but the data bus changes. The spec
gives the places and the zeros for the reference layout. That any five distinct places may be named, and that the rest
then read 0, is the model's choice (notes/assumptions/12.md). -/
def Obligations.DeviceStatusReadsFiveBits : Prop :=
  ∀ s : State, statusLayoutDistinct s.cfg.statusLayout = true →
    ∃ v : Byte, exec .rdDeviceStatus s = .next { s with dataBus := some v }
      ∧ v.getLsbD s.cfg.statusLayout.ready.val = true
      ∧ v.getLsbD s.cfg.statusLayout.irqPending.val = (s.irq.enable && decide (s.irq.cause &&& s.irq.mask ≠ 0))
      ∧ v.getLsbD s.cfg.statusLayout.memoryError.val = s.st.memerr
      ∧ v.getLsbD s.cfg.statusLayout.indexOverflow.val = s.st.idxovf
      ∧ v.getLsbD s.cfg.statusLayout.dmaActive.val = s.st.dmaActive
      ∧ ∀ j : Fin 8, j ∉ [s.cfg.statusLayout.ready, s.cfg.statusLayout.irqPending, s.cfg.statusLayout.memoryError,
          s.cfg.statusLayout.indexOverflow, s.cfg.statusLayout.dmaActive] → v.getLsbD j.val = false

/-- Writes of the cause registers (46_irq_controller.md section 3, decision D11), with their encodings: a 1 clears its
cause bit, a 0 leaves it; the line is re-evaluated, mask and enable and all else are unchanged. That MEMORY_ERROR
changes where the parameter `MEMERR_CLEAR_EVENTS` names the clearing of cause bit 0, and only there, is decision D11
and the model's choice of the events that can be named (notes/assumptions/11.md); the reference value names none. -/
def Obligations.CauseWritesClearOnes : Prop :=
  (∀ (d : Byte) (s : State),
    (∃ t, exec (.wrIrqCauseLow d) s = .next t
      ∧ (∀ j, t.irq.cause.getLsbD j = (s.irq.cause.getLsbD j && !d.getLsbD j))
      ∧ t.irq = { s.irq with cause := t.irq.cause, line := t.irq.pending }
      ∧ t.st = { s.st with
          memerr := s.st.memerr && !(d.getLsbD 0 && s.cfg.memerrClearEvents.contains .causeBitZeroCleared) }
      ∧ t = { s with irq := t.irq, st := t.st, dataBus := none })
    ∧ ∃ t, exec (.wrIrqCauseHigh d) s = .next t
      ∧ (∀ j, t.irq.cause.getLsbD j = (s.irq.cause.getLsbD j && !(decide (8 ≤ j) && d.getLsbD (j - 8))))
      ∧ t.irq = { s.irq with cause := t.irq.cause, line := t.irq.pending }
      ∧ t = { s with irq := t.irq, dataBus := none })
    ∧ NormalEncoding 0x100FF 0x100F1 (fun _ => True) (fun t => .wrIrqCauseLow (Txn.data t))
    ∧ NormalEncoding 0x100FF 0x100F2 (fun _ => True) (fun t => .wrIrqCauseHigh (Txn.data t))

/-- 46_irq_controller.md R304, R305 and R307, with their encodings: one byte of the mask takes the written byte and
the other keeps its value; any nonzero byte enables; the line is re-evaluated in the same cycle, and nothing else
changes. -/
def Obligations.MaskAndEnableWrites : Prop :=
  (∀ (d : Byte) (s : State),
    (∃ t, exec (.wrIrqMaskLow d) s = .next t
      ∧ t.irq.mask = (s.irq.mask &&& 0xFF00) ||| d.setWidth 16
      ∧ t.irq = { s.irq with mask := t.irq.mask, line := t.irq.pending } ∧ t = { s with irq := t.irq, dataBus := none })
    ∧ (∃ t, exec (.wrIrqMaskHigh d) s = .next t
      ∧ t.irq.mask = (s.irq.mask &&& 0x00FF) ||| (d.setWidth 16 <<< 8)
      ∧ t.irq = { s.irq with mask := t.irq.mask, line := t.irq.pending } ∧ t = { s with irq := t.irq, dataBus := none })
    ∧ ∃ t, exec (.wrIrqEnable d) s = .next t
      ∧ (t.irq.enable = true ↔ d ≠ 0)
      ∧ t.irq = { s.irq with enable := t.irq.enable, line := t.irq.pending }
      ∧ t = { s with irq := t.irq, dataBus := none })
    ∧ NormalEncoding 0x100FF 0x100F3 (fun _ => True) (fun t => .wrIrqMaskLow (Txn.data t))
    ∧ NormalEncoding 0x100FF 0x100F4 (fun _ => True) (fun t => .wrIrqMaskHigh (Txn.data t))
    ∧ NormalEncoding 0x100FF 0x100F5 (fun _ => True) (fun t => .wrIrqEnable (Txn.data t))

/-! ### ROM emulator -/

/-- The vector and filler reads (47_rom_emulator.md section 3, decisions D24, D25 and D32): the low and the high byte of
`BOOTLOADER_ENTRY`, and `HOST_NOP_BYTE`; nothing but the data bus changes. -/
def Obligations.RomVectorAndFillerReads : Prop :=
  ∀ (a : Byte) (s : State), ∃ lo hi : Byte,
    exec .romRdVectorLo s = .next { s with dataBus := some lo }
      ∧ exec .romRdVectorHi s = .next { s with dataBus := some hi }
      ∧ lo.toNat + 256 * hi.toNat = s.cfg.bootloaderEntry.toNat
      ∧ exec (.romRdOther a) s = .next { s with dataBus := some s.cfg.hostNopByte }

/-- The bootloader reads (47_rom_emulator.md section 3, decision D24): the image's byte at `a - BL_BASE`; nothing but
the data bus changes. -/
def Obligations.RomBootloaderReadsImage : Prop :=
  ∀ (s : State) (a : Byte) (k : Nat) (b : Byte), a.toNat = s.cfg.blBase.toNat + k →
    s.cfg.bootloaderImage[k]? = some b → exec (.romRdBootloader a) s = .next { s with dataBus := some b }

/-- The kernel-status read (47_rom_emulator.md sections 2 and 3, decisions D24 and D27): 1 while bytes remain and 0
after; the first one in `BOOT_ACTIVE` moves on, to `COMPLETE` for an empty image; nothing else changes. -/
def Obligations.KernelStatusReads : Prop :=
  ∀ s : State, exec .romRdKstatus s = .next
    { s with
      dataBus := some (if s.rome.kptr.toNat < s.cfg.kernelImage.length then 0x01 else 0x00)
      rome :=
        { s.rome with
          rst :=
            match s.rome.rst with
            | .bootActive => if s.cfg.kernelImage = [] then .complete else .kernelLoading
            | .inactive => .inactive
            | .resetSequence => .resetSequence
            | .kernelLoading => .kernelLoading
            | .complete => .complete } }

/-- The kernel-data read (47_rom_emulator.md section 3, decision D26): the next byte, the pointer one further, and
`COMPLETE` after the last byte; past the end a free byte, and no state changes. -/
def Obligations.KernelDataReads : Prop :=
  ∀ s : State, s.cfg.kernelImage.length ≤ 65535 →
    (∀ b, s.cfg.kernelImage[s.rome.kptr.toNat]? = some b → ∃ t, exec .romRdKdata s = .next t
      ∧ t.dataBus = some b ∧ t.rome.kptr.toNat = s.rome.kptr.toNat + 1 ∧ t.rome.started = s.rome.started
      ∧ t.rome.rst = (if s.rome.kptr.toNat + 1 = s.cfg.kernelImage.length then .complete else s.rome.rst)
      ∧ t = { s with rome := t.rome, dataBus := t.dataBus })
    ∧ (s.cfg.kernelImage.length ≤ s.rome.kptr.toNat →
      exec .romRdKdata s = .next
        { s with dataBus := some (Config.busDraw s.draws), draws := s.draws + 1 })

/-- A cycle outside the serving states (47_rom_emulator.md section 3, decision D28): a read returns a free byte, a write
has no effect. -/
def Obligations.NotServingCycles : Prop :=
  ∀ (t : Txn) (s : State),
    (Txn.isWrite t = false → exec (.romCycleNotServing t) s
      = .next { s with dataBus := some (Config.busDraw s.draws), draws := s.draws + 1 })
    ∧ (Txn.isWrite t = true → exec (.romCycleNotServing t) s = .next { s with dataBus := none })

/-- ROME's own steps (47_rom_emulator.md section 2, decisions D29, D37 and D40), where they are enabled: what each
writes, that nothing else changes, and that `StartBoot` refuses a configuration that the spec does not admit (section
1; which checks that means is notes/assumptions/10.md). No host clock is counted before `ReleaseReset`
(notes/assumptions/22.md). -/
def Obligations.BootSequencerSteps : Prop :=
  ∀ s : State,
    (s.nextEvent = .startBoot → s.phase = .boot → s.rome.rst = .inactive → s.rome.started = false →
      (Params.valid s.cfg = true → step s = .next { s.popEvent with
          rome := { s.rome with rst := .resetSequence, started := true }
          out := { s.out with hostReset := true } })
        ∧ (Params.valid s.cfg = false → step s = .refused .invalidConfiguration))
    ∧ (s.nextEvent = .releaseReset → s.rome.rst = .resetSequence → step s = .next { s.popEvent with
          rome := { s.rome with rst := .bootActive }
          out := { s.out with bank := true, hostReset := false } })
    ∧ (s.nextEvent = .handOff → s.phase = .boot → s.rome.rst = .complete → step s = .next { s.popEvent with
          phase := .normal
          rome := { s.rome with rst := .inactive }
          out := { s.out with clkFast := true, bank := false } })

/-- ROME reads and writes only its own state (47_rom_emulator.md section 1, decision D24): a bus cycle in phase BOOT
changes the ROME record, the data bus and the number of free values taken, and nothing else. A cycle offered with an
overrun is served like any other (notes/assumptions/9.md). -/
def Obligations.RomeCyclesTouchOnlyRome : Prop :=
  ∀ (s t : State) (p : BusPins) (overrun : Bool), s.phase = .boot → s.nextEvent = .busCycle p overrun →
    step s = .next t → t = { s.popEvent with rome := t.rome, dataBus := t.dataBus, draws := t.draws }

/-! ### Core 1, the DMA engine and the external sources -/

/-- `Dispatch` (45_dma_icq.md sections 1 to 3, decisions D17, D18 and D20): the oldest record leaves the queue; an
invalid start address sets cause bit 0, any other violation cause bit 3, both MEMORY_ERROR, with nothing copied; else
the copy starts with the addresses of this moment and the source bytes of this moment. The three cases exclude each
other. -/
def Obligations.DispatchStartsOrSignals : Prop :=
  ∀ (s : State) (e : CopyCmd) (rest : List CopyCmd), s.nextEvent = .dispatch → s.icq = e :: rest →
    ∃ t, step s = .next t ∧
      if 0x40000 ≤ (s.cursor e.srcIdx).current.toNat ∨ 0x40000 ≤ (s.cursor e.dstIdx).current.toNat then
        t.irq.cause = s.irq.cause ||| 0x0001 ∧ t.irq = { s.irq with cause := t.irq.cause, line := t.irq.pending }
          ∧ t = { s.popEvent with icq := rest, st := { s.st with memerr := true }, irq := t.irq }
      else if e.count = 0 ∨ s.dma.active = true
          ∨ 0x40000 < (s.cursor e.srcIdx).current.toNat + e.count.toNat
          ∨ 0x40000 < (s.cursor e.dstIdx).current.toNat + e.count.toNat then
        t.irq.cause = s.irq.cause ||| 0x0008 ∧ t.irq = { s.irq with cause := t.irq.cause, line := t.irq.pending }
          ∧ t = { s.popEvent with icq := rest, st := { s.st with memerr := true }, irq := t.irq }
      else
        t.dma.active = true ∧ t.dma.src = (s.cursor e.srcIdx).current ∧ t.dma.dst = (s.cursor e.dstIdx).current
          ∧ t.dma.count = e.count ∧ t.dma.done = [] ∧ t.dma.snap.length = e.count.toNat
          ∧ (∀ k, k < e.count.toNat →
              t.dma.snap[k]? = some (s.arenaByte ((s.cursor e.srcIdx).current.toNat + k)))
          ∧ t = { s.popEvent with icq := rest, st := { s.st with dmaActive := true }, dma := t.dma }

/-- `Transfer(k)` (45_dma_icq.md section 3, decision D19), where it is enabled: one destination byte takes its byte of
`snap`, the offset joins the set, and nothing else changes. -/
def Obligations.TransferMovesOneByte : Prop :=
  ∀ (s : State) (k : Nat) (v : Byte), s.nextEvent = .transfer k → s.dma.active = true → k < s.dma.count.toNat →
    k ∉ s.dma.done → s.dma.snap[k]? = some v →
    ∃ t, step s = .next t ∧ t.arenaByte (s.dma.dst.toNat + k) = v
      ∧ (∀ a, a ≠ s.dma.dst.toNat + k → t.arenaByte a = s.arenaByte a)
      ∧ (∀ j, j ∈ t.dma.done ↔ j = k ∨ j ∈ s.dma.done) ∧ t.dma = { s.dma with done := t.dma.done }
      ∧ t = { s.popEvent with arena := t.arena, dma := t.dma }

/-- `Complete` (45_dma_icq.md sections 1 and 3): it is enabled when a copy is active and every offset has been
transferred; it ends the copy, clears DMA_ACTIVE and raises cause bit 2, and touches nothing else. That it keeps the
other fields of `dma` is the model's reading (notes/assumptions/19.md), and that nothing happens where it is offered
and not enabled is the model's choice (notes/assumptions/7.md). -/
def Obligations.CompleteEndsCopyAndRaises : Prop :=
  ∀ s : State, s.nextEvent = .complete →
    ((s.dma.active = true ∧ ∀ k, k < s.dma.count.toNat → k ∈ s.dma.done) → ∃ t, step s = .next t
      ∧ t.irq.cause = s.irq.cause ||| 0x0004 ∧ t.irq = { s.irq with cause := t.irq.cause, line := t.irq.pending }
      ∧ t = { s.popEvent with
          dma := { s.dma with active := false }, st := { s.st with dmaActive := false }, irq := t.irq })
    ∧ (¬ (s.dma.active = true ∧ ∀ k, k < s.dma.count.toNat → k ∈ s.dma.done) → step s = .next s.popEvent)

/-- `ExtRaise(b)` (46_irq_controller.md section 1, decisions D30 and D31): at any time, in either phase, cause bits 15:4
are raised and bits 3:0 are not, and the line is re-evaluated; nothing else changes. That the event carries bits 15:4
alone (notes/assumptions/21.md), and as many of them at once as it likes (notes/assumptions/26.md), is the model's form
of the port. -/
def Obligations.ExternalRaiseSetsHighCauses : Prop :=
  ∀ (s : State) (b : BitVec 12), s.nextEvent = .extRaise b → ∃ t, step s = .next t
    ∧ (∀ j, j < 4 → t.irq.cause.getLsbD j = s.irq.cause.getLsbD j)
    ∧ (∀ j, j < 12 → t.irq.cause.getLsbD (j + 4) = (s.irq.cause.getLsbD (j + 4) || b.getLsbD j))
    ∧ t.irq = { s.irq with cause := t.irq.cause, line := t.irq.pending } ∧ t = { s.popEvent with irq := t.irq }

/-- Who may write what (10_state.md section 10): a step of Core 1, the DMA engine, ROME or an external source changes no
cursor, window or DMA-config record, and no arena byte but the one that a transfer writes. That it leaves the data bus
undriven and the configuration as it was is said of two fields of the model's own (its choices: notes/assumptions/5.md
and notes/assumptions/2.md). -/
def Obligations.AgentStepsKeepHostState : Prop :=
  ∀ (s t : State), (Event.isAgentStep s.nextEvent = true ∨ ∃ b, s.nextEvent = .extRaise b) → step s = .next t →
    t.cur = s.cur ∧ t.win = s.win ∧ t.dmacfg = s.dmacfg ∧ t.cfg = s.cfg ∧ t.dataBus = none
      ∧ ∀ a, t.arenaByte a ≠ s.arenaByte a → ∃ k, s.nextEvent = .transfer k ∧ a = s.dma.dst.toNat + k

/-- Nothing but a reset or its own completion ends a running copy, and no step forgets a byte transferred (45_dma_icq.md
section 4, decisions D14 and D23). -/
def Obligations.RunningCopyIsNotCancelled : Prop :=
  ∀ (s t : State), s.dma.active = true → step s = .next t → ¬ nextIsReset s → s.nextEvent ≠ .complete →
    t.dma.active = true ∧ t.dma.src = s.dma.src ∧ t.dma.dst = s.dma.dst ∧ t.dma.count = s.dma.count
      ∧ ∀ k, k ∈ s.dma.done → k ∈ t.dma.done

/-! ### Invariants and rules of the whole machine -/

/-- The reset state meets the invariant. -/
def Obligations.ResetMeetsInv : Prop := Inv State.reset

/-- Every step keeps the invariant, from every state that meets it: the canonical form of memory, items 2 to 5 of
10_state.md section 10, and what a copy in flight and the boot sequence keep true. -/
def Obligations.EveryStepKeepsInv : Prop := ∀ s t : State, Inv s → step s = .next t → Inv t

/-- MEMORY_ERROR is sticky (70_reset_and_hazards.md section 2, decision D11): under the reference
`MEMERR_CLEAR_EVENTS` no step but a reset clears it. -/
def Obligations.MemoryErrorIsSticky : Prop :=
  ∀ s t : State, s.cfg.memerrClearEvents = [] → s.st.memerr = true → step s = .next t → ¬ nextIsReset s →
    t.st.memerr = true

/-- BOOT is entered only by a reset and NORMAL only by `HandOff` from `COMPLETE` (60_exceptions.md section 3, decision
D29); no step changes the configuration (the model holds it in the state: notes/assumptions/2.md). -/
def Obligations.PhaseChangesOnlyAtResetAndHandOff : Prop :=
  ∀ s t : State, step s = .next t →
    (s.phase = .normal → t.phase = .boot → nextIsReset s)
      ∧ (s.phase = .boot → t.phase = .normal → s.nextEvent = .handOff ∧ s.rome.rst = .complete)
      ∧ t.cfg = s.cfg

/-- The copy law (45_dma_icq.md sections 2 and 3, decisions D17 to D19 and D21), three ways. Back to back: where the
preconditions hold, dispatch, the transfers in any order and the completion leave the destination equal to the source
bytes from before the copy, overlap or not; every other arena byte, the cursors and the windows are unchanged;
DMA_ACTIVE is clear and cause bit 2 is set. As a step: whatever the step, if it stores no host byte into the
destination of a running copy, then what has been transferred stands at the destination after it, if it did before.
Interleaved: from the dispatch of a copy to its completion, with any other steps between but a reset, a host write
into its destination and one to a source byte yet to be transferred, the destination takes the source bytes from
before the copy, and every other arena byte that the host does not write is unchanged. -/
def Obligations.CopyDeliversPreCopyBytes : Prop :=
  (∀ (s : State) (e : CopyCmd) (queue : List CopyCmd) (order : List Nat) (rest : List Event) (src dst : Nat),
    s.icq = e :: queue → s.dma.active = false →
    src = (s.cursor e.srcIdx).current.toNat → dst = (s.cursor e.dstIdx).current.toNat →
    0 < e.count.toNat → src + e.count.toNat ≤ 0x40000 → dst + e.count.toNat ≤ 0x40000 →
    order.Perm (List.range e.count.toNat) →
    s.inbox = .dispatch :: (order.map Event.transfer ++ .complete :: rest) →
    ∃ t, after (e.count.toNat + 2) s = some t
      ∧ (∀ k, k < e.count.toNat → t.arenaByte (dst + k) = s.arenaByte (src + k))
      ∧ (∀ a, a < dst ∨ dst + e.count.toNat ≤ a → t.arenaByte a = s.arenaByte a)
      ∧ t.cur = s.cur ∧ t.win = s.win ∧ t.icq = queue ∧ t.st = { s.st with dmaActive := false }
      ∧ t.irq.cause = s.irq.cause ||| 0x0004 ∧ t.irq.line = t.irq.pending ∧ t.inbox = rest)
    ∧ (∀ s t : State, Inv s → copyDelivered s → step s = .next t →
      (∀ a, nextStoresAt s a → s.dma.active = true → ¬ inRange s.dma.dst.toNat s.dma.count.toNat a) → copyDelivered t)
    ∧ ∀ (run : Nat → State) (ev : Nat → Event) (n src dst count : Nat) (e : CopyCmd) (queue : List CopyCmd),
      (∀ j, j ≤ n → step ((run j).offer (ev j)) = .next (run (j + 1))) → Inv (run 0) →
      ev 0 = .dispatch → (run 0).icq = e :: queue → (run 0).dma.active = false →
      src = ((run 0).cursor e.srcIdx).current.toNat → dst = ((run 0).cursor e.dstIdx).current.toNat →
      count = e.count.toNat → 0 < count → src + count ≤ 0x40000 → dst + count ≤ 0x40000 →
      (∀ j, 0 < j → j < n → ¬ nextIsReset ((run j).offer (ev j))
        ∧ ¬ (ev j = .complete ∧ Event.enabled (run j) .complete = true)
        ∧ ∀ a, nextStoresAt ((run j).offer (ev j)) a → (run j).sourcePending a = false ∧ ¬ inRange dst count a) →
      ev n = .complete → Event.enabled (run n) .complete = true →
      (run (n + 1)).st.dmaActive = false ∧ (run (n + 1)).irq.cause.getLsbD 2 = true
        ∧ (∀ k, k < count → (run (n + 1)).arenaByte (dst + k) = (run 0).arenaByte (src + k))
        ∧ ∀ a, ¬ inRange dst count a → (∀ j, 0 < j → j < n → ¬ nextStoresAt ((run j).offer (ev j)) a) →
          (run (n + 1)).arenaByte a = (run 0).arenaByte a

/-- The boot sequence (70_reset_and_hazards.md section 1, 47_rom_emulator.md sections 2 to 4): from power-on in any
admitted configuration, `StartBoot`, `ReleaseReset`, a correct bootloader's loop and `HandOff` deliver exactly the
kernel image, in order, with status 1 before each byte and 0 at the end, and leave phase NORMAL with the outputs of
the hand-off and every other register as power-on left it. -/
def Obligations.BootStreamsKernelThenHandsOff : Prop :=
  ∀ (p : Params) (epoch draws : Nat) (s : State) (rest : List Event), Params.valid p = true →
    s = State.powerOn p epoch
      (.startBoot :: .releaseReset :: (bootloaderReads p p.kernelImage.length ++ .handOff :: rest)) draws →
    (readsOf (2 * p.kernelImage.length + 3) s).1 = none :: none :: bootloaderSees p.kernelImage
      ∧ ∃ t, after (2 * p.kernelImage.length + 4) s = some t
        ∧ t.phase = .normal ∧ t.rome.rst = .inactive ∧ t.rome.started = true
        ∧ t.rome.kptr.toNat = p.kernelImage.length ∧ t.out = ⟨false, true, false⟩
        ∧ t = { s with phase := t.phase, rome := t.rome, out := t.out, dataBus := t.dataBus, inbox := rest }

/-- Fairness (45_dma_icq.md section 1, decision D2; 47_rom_emulator.md section 2): no step but itself or a reset
disables an agent step that is enabled; so in a weakly fair run an enabled agent step is taken at last, unless a reset
comes first. The agent steps are those of Core 1, the DMA engine and ROME; that weak fairness covers these and no
external raise is the model's choice (notes/assumptions/27.md). -/
def Obligations.FairRunsTakeEnabledAgentSteps : Prop :=
  (∀ (s t : State) (e : Event), Event.isAgentStep e = true → Event.enabled s e = true → step s = .next t →
    s.nextEvent ≠ e → ¬ nextIsReset s → Event.enabled t e = true)
    ∧ ∀ (run : Nat → State) (ev : Nat → Event) (e : Event) (n : Nat), IsRun run ev → WeaklyFair run ev →
      Event.isAgentStep e = true → Event.enabled (run n) e = true →
      ∃ m, n ≤ m ∧ (ev m = e ∨ nextIsReset ((run m).offer (ev m)))
end

