-- ==== Sys2Proof/Laws/State.lean ====
section
/-! SUPPORT. What each named update of the state does to each field: true by rfl, tagged simp, so that no proof unfolds a
record update. -/

namespace Sys2Proof.Machine

@[simp] theorem State.drive_cfg (s : State) (v : Byte) : (s.drive v).cfg = s.cfg := rfl
@[simp] theorem State.drive_phase (s : State) (v : Byte) : (s.drive v).phase = s.phase := rfl
@[simp] theorem State.drive_cur (s : State) (v : Byte) : (s.drive v).cur = s.cur := rfl
@[simp] theorem State.drive_win (s : State) (v : Byte) : (s.drive v).win = s.win := rfl
@[simp] theorem State.drive_arena (s : State) (v : Byte) : (s.drive v).arena = s.arena := rfl
@[simp] theorem State.drive_epoch (s : State) (v : Byte) : (s.drive v).epoch = s.epoch := rfl
@[simp] theorem State.drive_st (s : State) (v : Byte) : (s.drive v).st = s.st := rfl
@[simp] theorem State.drive_irq (s : State) (v : Byte) : (s.drive v).irq = s.irq := rfl
@[simp] theorem State.drive_dmacfg (s : State) (v : Byte) : (s.drive v).dmacfg = s.dmacfg := rfl
@[simp] theorem State.drive_icq (s : State) (v : Byte) : (s.drive v).icq = s.icq := rfl
@[simp] theorem State.drive_dma (s : State) (v : Byte) : (s.drive v).dma = s.dma := rfl
@[simp] theorem State.drive_rome (s : State) (v : Byte) : (s.drive v).rome = s.rome := rfl
@[simp] theorem State.drive_out (s : State) (v : Byte) : (s.drive v).out = s.out := rfl
@[simp] theorem State.drive_dataBus (s : State) (v : Byte) : (s.drive v).dataBus = some v := rfl
@[simp] theorem State.drive_inbox (s : State) (v : Byte) : (s.drive v).inbox = s.inbox := rfl
@[simp] theorem State.drive_draws (s : State) (v : Byte) : (s.drive v).draws = s.draws := rfl

@[simp] theorem State.release_cfg (s : State) : s.release.cfg = s.cfg := rfl
@[simp] theorem State.release_phase (s : State) : s.release.phase = s.phase := rfl
@[simp] theorem State.release_cur (s : State) : s.release.cur = s.cur := rfl
@[simp] theorem State.release_win (s : State) : s.release.win = s.win := rfl
@[simp] theorem State.release_arena (s : State) : s.release.arena = s.arena := rfl
@[simp] theorem State.release_epoch (s : State) : s.release.epoch = s.epoch := rfl
@[simp] theorem State.release_st (s : State) : s.release.st = s.st := rfl
@[simp] theorem State.release_irq (s : State) : s.release.irq = s.irq := rfl
@[simp] theorem State.release_dmacfg (s : State) : s.release.dmacfg = s.dmacfg := rfl
@[simp] theorem State.release_icq (s : State) : s.release.icq = s.icq := rfl
@[simp] theorem State.release_dma (s : State) : s.release.dma = s.dma := rfl
@[simp] theorem State.release_rome (s : State) : s.release.rome = s.rome := rfl
@[simp] theorem State.release_out (s : State) : s.release.out = s.out := rfl
@[simp] theorem State.release_dataBus (s : State) : s.release.dataBus = none := rfl
@[simp] theorem State.release_inbox (s : State) : s.release.inbox = s.inbox := rfl
@[simp] theorem State.release_draws (s : State) : s.release.draws = s.draws := rfl

@[simp] theorem State.tookDraw_cfg (s : State) : s.tookDraw.cfg = s.cfg := rfl
@[simp] theorem State.tookDraw_phase (s : State) : s.tookDraw.phase = s.phase := rfl
@[simp] theorem State.tookDraw_cur (s : State) : s.tookDraw.cur = s.cur := rfl
@[simp] theorem State.tookDraw_win (s : State) : s.tookDraw.win = s.win := rfl
@[simp] theorem State.tookDraw_arena (s : State) : s.tookDraw.arena = s.arena := rfl
@[simp] theorem State.tookDraw_epoch (s : State) : s.tookDraw.epoch = s.epoch := rfl
@[simp] theorem State.tookDraw_st (s : State) : s.tookDraw.st = s.st := rfl
@[simp] theorem State.tookDraw_irq (s : State) : s.tookDraw.irq = s.irq := rfl
@[simp] theorem State.tookDraw_dmacfg (s : State) : s.tookDraw.dmacfg = s.dmacfg := rfl
@[simp] theorem State.tookDraw_icq (s : State) : s.tookDraw.icq = s.icq := rfl
@[simp] theorem State.tookDraw_dma (s : State) : s.tookDraw.dma = s.dma := rfl
@[simp] theorem State.tookDraw_rome (s : State) : s.tookDraw.rome = s.rome := rfl
@[simp] theorem State.tookDraw_out (s : State) : s.tookDraw.out = s.out := rfl
@[simp] theorem State.tookDraw_dataBus (s : State) : s.tookDraw.dataBus = s.dataBus := rfl
@[simp] theorem State.tookDraw_inbox (s : State) : s.tookDraw.inbox = s.inbox := rfl
@[simp] theorem State.tookDraw_draws (s : State) : s.tookDraw.draws = s.draws + 1 := rfl

@[simp] theorem State.driveDraw_cfg (s : State) : s.driveDraw.cfg = s.cfg := rfl
@[simp] theorem State.driveDraw_phase (s : State) : s.driveDraw.phase = s.phase := rfl
@[simp] theorem State.driveDraw_cur (s : State) : s.driveDraw.cur = s.cur := rfl
@[simp] theorem State.driveDraw_win (s : State) : s.driveDraw.win = s.win := rfl
@[simp] theorem State.driveDraw_arena (s : State) : s.driveDraw.arena = s.arena := rfl
@[simp] theorem State.driveDraw_epoch (s : State) : s.driveDraw.epoch = s.epoch := rfl
@[simp] theorem State.driveDraw_st (s : State) : s.driveDraw.st = s.st := rfl
@[simp] theorem State.driveDraw_irq (s : State) : s.driveDraw.irq = s.irq := rfl
@[simp] theorem State.driveDraw_dmacfg (s : State) : s.driveDraw.dmacfg = s.dmacfg := rfl
@[simp] theorem State.driveDraw_icq (s : State) : s.driveDraw.icq = s.icq := rfl
@[simp] theorem State.driveDraw_dma (s : State) : s.driveDraw.dma = s.dma := rfl
@[simp] theorem State.driveDraw_rome (s : State) : s.driveDraw.rome = s.rome := rfl
@[simp] theorem State.driveDraw_out (s : State) : s.driveDraw.out = s.out := rfl
@[simp] theorem State.driveDraw_dataBus (s : State) : s.driveDraw.dataBus = some (Config.busDraw s.draws) := rfl
@[simp] theorem State.driveDraw_inbox (s : State) : s.driveDraw.inbox = s.inbox := rfl
@[simp] theorem State.driveDraw_draws (s : State) : s.driveDraw.draws = s.draws + 1 := rfl

@[simp] theorem State.raise_cfg (s : State) (b : Half) : (s.raise b).cfg = s.cfg := rfl
@[simp] theorem State.raise_phase (s : State) (b : Half) : (s.raise b).phase = s.phase := rfl
@[simp] theorem State.raise_cur (s : State) (b : Half) : (s.raise b).cur = s.cur := rfl
@[simp] theorem State.raise_win (s : State) (b : Half) : (s.raise b).win = s.win := rfl
@[simp] theorem State.raise_arena (s : State) (b : Half) : (s.raise b).arena = s.arena := rfl
@[simp] theorem State.raise_epoch (s : State) (b : Half) : (s.raise b).epoch = s.epoch := rfl
@[simp] theorem State.raise_st (s : State) (b : Half) : (s.raise b).st = { s.st with memerr := true } := rfl
@[simp] theorem State.raise_irq (s : State) (b : Half) : (s.raise b).irq = s.irq.setBits b := rfl
@[simp] theorem State.raise_dmacfg (s : State) (b : Half) : (s.raise b).dmacfg = s.dmacfg := rfl
@[simp] theorem State.raise_icq (s : State) (b : Half) : (s.raise b).icq = s.icq := rfl
@[simp] theorem State.raise_dma (s : State) (b : Half) : (s.raise b).dma = s.dma := rfl
@[simp] theorem State.raise_rome (s : State) (b : Half) : (s.raise b).rome = s.rome := rfl
@[simp] theorem State.raise_out (s : State) (b : Half) : (s.raise b).out = s.out := rfl
@[simp] theorem State.raise_dataBus (s : State) (b : Half) : (s.raise b).dataBus = s.dataBus := rfl
@[simp] theorem State.raise_inbox (s : State) (b : Half) : (s.raise b).inbox = s.inbox := rfl
@[simp] theorem State.raise_draws (s : State) (b : Half) : (s.raise b).draws = s.draws := rfl

@[simp] theorem State.setCursor_cfg (s : State) (i : CurNo) (c : Cursor) : (s.setCursor i c).cfg = s.cfg := rfl
@[simp] theorem State.setCursor_phase (s : State) (i : CurNo) (c : Cursor) : (s.setCursor i c).phase = s.phase := rfl
@[simp] theorem State.setCursor_cur (s : State) (i : CurNo) (c : Cursor) : (s.setCursor i c).cur = s.cur.set i.toNat c i.isLt := rfl
@[simp] theorem State.setCursor_win (s : State) (i : CurNo) (c : Cursor) : (s.setCursor i c).win = s.win := rfl
@[simp] theorem State.setCursor_arena (s : State) (i : CurNo) (c : Cursor) : (s.setCursor i c).arena = s.arena := rfl
@[simp] theorem State.setCursor_epoch (s : State) (i : CurNo) (c : Cursor) : (s.setCursor i c).epoch = s.epoch := rfl
@[simp] theorem State.setCursor_st (s : State) (i : CurNo) (c : Cursor) : (s.setCursor i c).st = s.st := rfl
@[simp] theorem State.setCursor_irq (s : State) (i : CurNo) (c : Cursor) : (s.setCursor i c).irq = s.irq := rfl
@[simp] theorem State.setCursor_dmacfg (s : State) (i : CurNo) (c : Cursor) : (s.setCursor i c).dmacfg = s.dmacfg := rfl
@[simp] theorem State.setCursor_icq (s : State) (i : CurNo) (c : Cursor) : (s.setCursor i c).icq = s.icq := rfl
@[simp] theorem State.setCursor_dma (s : State) (i : CurNo) (c : Cursor) : (s.setCursor i c).dma = s.dma := rfl
@[simp] theorem State.setCursor_rome (s : State) (i : CurNo) (c : Cursor) : (s.setCursor i c).rome = s.rome := rfl
@[simp] theorem State.setCursor_out (s : State) (i : CurNo) (c : Cursor) : (s.setCursor i c).out = s.out := rfl
@[simp] theorem State.setCursor_dataBus (s : State) (i : CurNo) (c : Cursor) : (s.setCursor i c).dataBus = s.dataBus := rfl
@[simp] theorem State.setCursor_inbox (s : State) (i : CurNo) (c : Cursor) : (s.setCursor i c).inbox = s.inbox := rfl
@[simp] theorem State.setCursor_draws (s : State) (i : CurNo) (c : Cursor) : (s.setCursor i c).draws = s.draws := rfl

@[simp] theorem State.mapCursors_cfg (s : State) (f : Cursor → Cursor) : (s.mapCursors f).cfg = s.cfg := rfl
@[simp] theorem State.mapCursors_phase (s : State) (f : Cursor → Cursor) : (s.mapCursors f).phase = s.phase := rfl
@[simp] theorem State.mapCursors_win (s : State) (f : Cursor → Cursor) : (s.mapCursors f).win = s.win := rfl
@[simp] theorem State.mapCursors_arena (s : State) (f : Cursor → Cursor) : (s.mapCursors f).arena = s.arena := rfl
@[simp] theorem State.mapCursors_epoch (s : State) (f : Cursor → Cursor) : (s.mapCursors f).epoch = s.epoch := rfl
@[simp] theorem State.mapCursors_st (s : State) (f : Cursor → Cursor) : (s.mapCursors f).st = s.st := rfl
@[simp] theorem State.mapCursors_irq (s : State) (f : Cursor → Cursor) : (s.mapCursors f).irq = s.irq := rfl
@[simp] theorem State.mapCursors_dmacfg (s : State) (f : Cursor → Cursor) : (s.mapCursors f).dmacfg = s.dmacfg := rfl
@[simp] theorem State.mapCursors_icq (s : State) (f : Cursor → Cursor) : (s.mapCursors f).icq = s.icq := rfl
@[simp] theorem State.mapCursors_dma (s : State) (f : Cursor → Cursor) : (s.mapCursors f).dma = s.dma := rfl
@[simp] theorem State.mapCursors_rome (s : State) (f : Cursor → Cursor) : (s.mapCursors f).rome = s.rome := rfl
@[simp] theorem State.mapCursors_out (s : State) (f : Cursor → Cursor) : (s.mapCursors f).out = s.out := rfl
@[simp] theorem State.mapCursors_dataBus (s : State) (f : Cursor → Cursor) : (s.mapCursors f).dataBus = s.dataBus := rfl
@[simp] theorem State.mapCursors_inbox (s : State) (f : Cursor → Cursor) : (s.mapCursors f).inbox = s.inbox := rfl
@[simp] theorem State.mapCursors_draws (s : State) (f : Cursor → Cursor) : (s.mapCursors f).draws = s.draws := rfl

@[simp] theorem State.setWindow_cfg (s : State) (w : WinNo) (x : Window) : (s.setWindow w x).cfg = s.cfg := rfl
@[simp] theorem State.setWindow_phase (s : State) (w : WinNo) (x : Window) : (s.setWindow w x).phase = s.phase := rfl
@[simp] theorem State.setWindow_cur (s : State) (w : WinNo) (x : Window) : (s.setWindow w x).cur = s.cur := rfl
@[simp] theorem State.setWindow_win (s : State) (w : WinNo) (x : Window) : (s.setWindow w x).win = s.win.set w.toNat x w.isLt := rfl
@[simp] theorem State.setWindow_arena (s : State) (w : WinNo) (x : Window) : (s.setWindow w x).arena = s.arena := rfl
@[simp] theorem State.setWindow_epoch (s : State) (w : WinNo) (x : Window) : (s.setWindow w x).epoch = s.epoch := rfl
@[simp] theorem State.setWindow_st (s : State) (w : WinNo) (x : Window) : (s.setWindow w x).st = s.st := rfl
@[simp] theorem State.setWindow_irq (s : State) (w : WinNo) (x : Window) : (s.setWindow w x).irq = s.irq := rfl
@[simp] theorem State.setWindow_dmacfg (s : State) (w : WinNo) (x : Window) : (s.setWindow w x).dmacfg = s.dmacfg := rfl
@[simp] theorem State.setWindow_icq (s : State) (w : WinNo) (x : Window) : (s.setWindow w x).icq = s.icq := rfl
@[simp] theorem State.setWindow_dma (s : State) (w : WinNo) (x : Window) : (s.setWindow w x).dma = s.dma := rfl
@[simp] theorem State.setWindow_rome (s : State) (w : WinNo) (x : Window) : (s.setWindow w x).rome = s.rome := rfl
@[simp] theorem State.setWindow_out (s : State) (w : WinNo) (x : Window) : (s.setWindow w x).out = s.out := rfl
@[simp] theorem State.setWindow_dataBus (s : State) (w : WinNo) (x : Window) : (s.setWindow w x).dataBus = s.dataBus := rfl
@[simp] theorem State.setWindow_inbox (s : State) (w : WinNo) (x : Window) : (s.setWindow w x).inbox = s.inbox := rfl
@[simp] theorem State.setWindow_draws (s : State) (w : WinNo) (x : Window) : (s.setWindow w x).draws = s.draws := rfl

@[simp] theorem State.arenaWrite_cfg (s : State) (a : Nat) (v : Byte) : (s.arenaWrite a v).cfg = s.cfg := rfl
@[simp] theorem State.arenaWrite_phase (s : State) (a : Nat) (v : Byte) : (s.arenaWrite a v).phase = s.phase := rfl
@[simp] theorem State.arenaWrite_cur (s : State) (a : Nat) (v : Byte) : (s.arenaWrite a v).cur = s.cur := rfl
@[simp] theorem State.arenaWrite_win (s : State) (a : Nat) (v : Byte) : (s.arenaWrite a v).win = s.win := rfl
@[simp] theorem State.arenaWrite_arena (s : State) (a : Nat) (v : Byte) : (s.arenaWrite a v).arena = s.arena.write a v := rfl
@[simp] theorem State.arenaWrite_epoch (s : State) (a : Nat) (v : Byte) : (s.arenaWrite a v).epoch = s.epoch := rfl
@[simp] theorem State.arenaWrite_st (s : State) (a : Nat) (v : Byte) : (s.arenaWrite a v).st = s.st := rfl
@[simp] theorem State.arenaWrite_irq (s : State) (a : Nat) (v : Byte) : (s.arenaWrite a v).irq = s.irq := rfl
@[simp] theorem State.arenaWrite_dmacfg (s : State) (a : Nat) (v : Byte) : (s.arenaWrite a v).dmacfg = s.dmacfg := rfl
@[simp] theorem State.arenaWrite_icq (s : State) (a : Nat) (v : Byte) : (s.arenaWrite a v).icq = s.icq := rfl
@[simp] theorem State.arenaWrite_dma (s : State) (a : Nat) (v : Byte) : (s.arenaWrite a v).dma = s.dma := rfl
@[simp] theorem State.arenaWrite_rome (s : State) (a : Nat) (v : Byte) : (s.arenaWrite a v).rome = s.rome := rfl
@[simp] theorem State.arenaWrite_out (s : State) (a : Nat) (v : Byte) : (s.arenaWrite a v).out = s.out := rfl
@[simp] theorem State.arenaWrite_dataBus (s : State) (a : Nat) (v : Byte) : (s.arenaWrite a v).dataBus = s.dataBus := rfl
@[simp] theorem State.arenaWrite_inbox (s : State) (a : Nat) (v : Byte) : (s.arenaWrite a v).inbox = s.inbox := rfl
@[simp] theorem State.arenaWrite_draws (s : State) (a : Nat) (v : Byte) : (s.arenaWrite a v).draws = s.draws := rfl

@[simp] theorem State.startCopy_cfg (s : State) (a b : Addr) (n : Half) : (s.startCopy a b n).cfg = s.cfg := rfl
@[simp] theorem State.startCopy_phase (s : State) (a b : Addr) (n : Half) : (s.startCopy a b n).phase = s.phase := rfl
@[simp] theorem State.startCopy_cur (s : State) (a b : Addr) (n : Half) : (s.startCopy a b n).cur = s.cur := rfl
@[simp] theorem State.startCopy_win (s : State) (a b : Addr) (n : Half) : (s.startCopy a b n).win = s.win := rfl
@[simp] theorem State.startCopy_arena (s : State) (a b : Addr) (n : Half) : (s.startCopy a b n).arena = s.arena := rfl
@[simp] theorem State.startCopy_epoch (s : State) (a b : Addr) (n : Half) : (s.startCopy a b n).epoch = s.epoch := rfl
@[simp] theorem State.startCopy_st (s : State) (a b : Addr) (n : Half) : (s.startCopy a b n).st = { s.st with dmaActive := true } := rfl
@[simp] theorem State.startCopy_irq (s : State) (a b : Addr) (n : Half) : (s.startCopy a b n).irq = s.irq := rfl
@[simp] theorem State.startCopy_dmacfg (s : State) (a b : Addr) (n : Half) : (s.startCopy a b n).dmacfg = s.dmacfg := rfl
@[simp] theorem State.startCopy_icq (s : State) (a b : Addr) (n : Half) : (s.startCopy a b n).icq = s.icq := rfl
@[simp] theorem State.startCopy_rome (s : State) (a b : Addr) (n : Half) : (s.startCopy a b n).rome = s.rome := rfl
@[simp] theorem State.startCopy_out (s : State) (a b : Addr) (n : Half) : (s.startCopy a b n).out = s.out := rfl
@[simp] theorem State.startCopy_dataBus (s : State) (a b : Addr) (n : Half) : (s.startCopy a b n).dataBus = s.dataBus := rfl
@[simp] theorem State.startCopy_inbox (s : State) (a b : Addr) (n : Half) : (s.startCopy a b n).inbox = s.inbox := rfl
@[simp] theorem State.startCopy_draws (s : State) (a b : Addr) (n : Half) : (s.startCopy a b n).draws = s.draws := rfl

@[simp] theorem State.transferStep_cfg (s : State) (k : Nat) : (s.transferStep k).cfg = s.cfg := rfl
@[simp] theorem State.transferStep_phase (s : State) (k : Nat) : (s.transferStep k).phase = s.phase := rfl
@[simp] theorem State.transferStep_cur (s : State) (k : Nat) : (s.transferStep k).cur = s.cur := rfl
@[simp] theorem State.transferStep_win (s : State) (k : Nat) : (s.transferStep k).win = s.win := rfl
@[simp] theorem State.transferStep_epoch (s : State) (k : Nat) : (s.transferStep k).epoch = s.epoch := rfl
@[simp] theorem State.transferStep_st (s : State) (k : Nat) : (s.transferStep k).st = s.st := rfl
@[simp] theorem State.transferStep_irq (s : State) (k : Nat) : (s.transferStep k).irq = s.irq := rfl
@[simp] theorem State.transferStep_dmacfg (s : State) (k : Nat) : (s.transferStep k).dmacfg = s.dmacfg := rfl
@[simp] theorem State.transferStep_icq (s : State) (k : Nat) : (s.transferStep k).icq = s.icq := rfl
@[simp] theorem State.transferStep_dma (s : State) (k : Nat) : (s.transferStep k).dma = { s.dma with done := insertOffset k s.dma.done } := rfl
@[simp] theorem State.transferStep_rome (s : State) (k : Nat) : (s.transferStep k).rome = s.rome := rfl
@[simp] theorem State.transferStep_out (s : State) (k : Nat) : (s.transferStep k).out = s.out := rfl
@[simp] theorem State.transferStep_dataBus (s : State) (k : Nat) : (s.transferStep k).dataBus = s.dataBus := rfl
@[simp] theorem State.transferStep_inbox (s : State) (k : Nat) : (s.transferStep k).inbox = s.inbox := rfl
@[simp] theorem State.transferStep_draws (s : State) (k : Nat) : (s.transferStep k).draws = s.draws := rfl

@[simp] theorem State.completeStep_cfg (s : State) : s.completeStep.cfg = s.cfg := rfl
@[simp] theorem State.completeStep_phase (s : State) : s.completeStep.phase = s.phase := rfl
@[simp] theorem State.completeStep_cur (s : State) : s.completeStep.cur = s.cur := rfl
@[simp] theorem State.completeStep_win (s : State) : s.completeStep.win = s.win := rfl
@[simp] theorem State.completeStep_arena (s : State) : s.completeStep.arena = s.arena := rfl
@[simp] theorem State.completeStep_epoch (s : State) : s.completeStep.epoch = s.epoch := rfl
@[simp] theorem State.completeStep_st (s : State) : s.completeStep.st = { s.st with dmaActive := false } := rfl
@[simp] theorem State.completeStep_irq (s : State) : s.completeStep.irq = s.irq.setBits causeDmaComplete := rfl
@[simp] theorem State.completeStep_dmacfg (s : State) : s.completeStep.dmacfg = s.dmacfg := rfl
@[simp] theorem State.completeStep_icq (s : State) : s.completeStep.icq = s.icq := rfl
@[simp] theorem State.completeStep_dma (s : State) : s.completeStep.dma = { s.dma with active := false } := rfl
@[simp] theorem State.completeStep_rome (s : State) : s.completeStep.rome = s.rome := rfl
@[simp] theorem State.completeStep_out (s : State) : s.completeStep.out = s.out := rfl
@[simp] theorem State.completeStep_dataBus (s : State) : s.completeStep.dataBus = s.dataBus := rfl
@[simp] theorem State.completeStep_inbox (s : State) : s.completeStep.inbox = s.inbox := rfl
@[simp] theorem State.completeStep_draws (s : State) : s.completeStep.draws = s.draws := rfl

@[simp] theorem State.extRaiseStep_cfg (s : State) (b : BitVec 12) : (s.extRaiseStep b).cfg = s.cfg := rfl
@[simp] theorem State.extRaiseStep_phase (s : State) (b : BitVec 12) : (s.extRaiseStep b).phase = s.phase := rfl
@[simp] theorem State.extRaiseStep_cur (s : State) (b : BitVec 12) : (s.extRaiseStep b).cur = s.cur := rfl
@[simp] theorem State.extRaiseStep_win (s : State) (b : BitVec 12) : (s.extRaiseStep b).win = s.win := rfl
@[simp] theorem State.extRaiseStep_arena (s : State) (b : BitVec 12) : (s.extRaiseStep b).arena = s.arena := rfl
@[simp] theorem State.extRaiseStep_epoch (s : State) (b : BitVec 12) : (s.extRaiseStep b).epoch = s.epoch := rfl
@[simp] theorem State.extRaiseStep_st (s : State) (b : BitVec 12) : (s.extRaiseStep b).st = s.st := rfl
@[simp] theorem State.extRaiseStep_irq (s : State) (b : BitVec 12) : (s.extRaiseStep b).irq = s.irq.setBits (b.setWidth 16 <<< 4) := rfl
@[simp] theorem State.extRaiseStep_dmacfg (s : State) (b : BitVec 12) : (s.extRaiseStep b).dmacfg = s.dmacfg := rfl
@[simp] theorem State.extRaiseStep_icq (s : State) (b : BitVec 12) : (s.extRaiseStep b).icq = s.icq := rfl
@[simp] theorem State.extRaiseStep_dma (s : State) (b : BitVec 12) : (s.extRaiseStep b).dma = s.dma := rfl
@[simp] theorem State.extRaiseStep_rome (s : State) (b : BitVec 12) : (s.extRaiseStep b).rome = s.rome := rfl
@[simp] theorem State.extRaiseStep_out (s : State) (b : BitVec 12) : (s.extRaiseStep b).out = s.out := rfl
@[simp] theorem State.extRaiseStep_dataBus (s : State) (b : BitVec 12) : (s.extRaiseStep b).dataBus = s.dataBus := rfl
@[simp] theorem State.extRaiseStep_inbox (s : State) (b : BitVec 12) : (s.extRaiseStep b).inbox = s.inbox := rfl
@[simp] theorem State.extRaiseStep_draws (s : State) (b : BitVec 12) : (s.extRaiseStep b).draws = s.draws := rfl

@[simp] theorem State.startBootStep_cfg (s : State) : s.startBootStep.cfg = s.cfg := rfl
@[simp] theorem State.startBootStep_phase (s : State) : s.startBootStep.phase = s.phase := rfl
@[simp] theorem State.startBootStep_cur (s : State) : s.startBootStep.cur = s.cur := rfl
@[simp] theorem State.startBootStep_win (s : State) : s.startBootStep.win = s.win := rfl
@[simp] theorem State.startBootStep_arena (s : State) : s.startBootStep.arena = s.arena := rfl
@[simp] theorem State.startBootStep_epoch (s : State) : s.startBootStep.epoch = s.epoch := rfl
@[simp] theorem State.startBootStep_st (s : State) : s.startBootStep.st = s.st := rfl
@[simp] theorem State.startBootStep_irq (s : State) : s.startBootStep.irq = s.irq := rfl
@[simp] theorem State.startBootStep_dmacfg (s : State) : s.startBootStep.dmacfg = s.dmacfg := rfl
@[simp] theorem State.startBootStep_icq (s : State) : s.startBootStep.icq = s.icq := rfl
@[simp] theorem State.startBootStep_dma (s : State) : s.startBootStep.dma = s.dma := rfl
@[simp] theorem State.startBootStep_rome (s : State) : s.startBootStep.rome = { s.rome with rst := .resetSequence, started := true } := rfl
@[simp] theorem State.startBootStep_out (s : State) : s.startBootStep.out = { s.out with hostReset := true } := rfl
@[simp] theorem State.startBootStep_dataBus (s : State) : s.startBootStep.dataBus = s.dataBus := rfl
@[simp] theorem State.startBootStep_inbox (s : State) : s.startBootStep.inbox = s.inbox := rfl
@[simp] theorem State.startBootStep_draws (s : State) : s.startBootStep.draws = s.draws := rfl

@[simp] theorem State.releaseResetStep_cfg (s : State) : s.releaseResetStep.cfg = s.cfg := rfl
@[simp] theorem State.releaseResetStep_phase (s : State) : s.releaseResetStep.phase = s.phase := rfl
@[simp] theorem State.releaseResetStep_cur (s : State) : s.releaseResetStep.cur = s.cur := rfl
@[simp] theorem State.releaseResetStep_win (s : State) : s.releaseResetStep.win = s.win := rfl
@[simp] theorem State.releaseResetStep_arena (s : State) : s.releaseResetStep.arena = s.arena := rfl
@[simp] theorem State.releaseResetStep_epoch (s : State) : s.releaseResetStep.epoch = s.epoch := rfl
@[simp] theorem State.releaseResetStep_st (s : State) : s.releaseResetStep.st = s.st := rfl
@[simp] theorem State.releaseResetStep_irq (s : State) : s.releaseResetStep.irq = s.irq := rfl
@[simp] theorem State.releaseResetStep_dmacfg (s : State) : s.releaseResetStep.dmacfg = s.dmacfg := rfl
@[simp] theorem State.releaseResetStep_icq (s : State) : s.releaseResetStep.icq = s.icq := rfl
@[simp] theorem State.releaseResetStep_dma (s : State) : s.releaseResetStep.dma = s.dma := rfl
@[simp] theorem State.releaseResetStep_rome (s : State) : s.releaseResetStep.rome = { s.rome with rst := .bootActive } := rfl
@[simp] theorem State.releaseResetStep_out (s : State) : s.releaseResetStep.out = { s.out with bank := true, hostReset := false } := rfl
@[simp] theorem State.releaseResetStep_dataBus (s : State) : s.releaseResetStep.dataBus = s.dataBus := rfl
@[simp] theorem State.releaseResetStep_inbox (s : State) : s.releaseResetStep.inbox = s.inbox := rfl
@[simp] theorem State.releaseResetStep_draws (s : State) : s.releaseResetStep.draws = s.draws := rfl

@[simp] theorem State.handOffStep_cfg (s : State) : s.handOffStep.cfg = s.cfg := rfl
@[simp] theorem State.handOffStep_phase (s : State) : s.handOffStep.phase = .normal := rfl
@[simp] theorem State.handOffStep_cur (s : State) : s.handOffStep.cur = s.cur := rfl
@[simp] theorem State.handOffStep_win (s : State) : s.handOffStep.win = s.win := rfl
@[simp] theorem State.handOffStep_arena (s : State) : s.handOffStep.arena = s.arena := rfl
@[simp] theorem State.handOffStep_epoch (s : State) : s.handOffStep.epoch = s.epoch := rfl
@[simp] theorem State.handOffStep_st (s : State) : s.handOffStep.st = s.st := rfl
@[simp] theorem State.handOffStep_irq (s : State) : s.handOffStep.irq = s.irq := rfl
@[simp] theorem State.handOffStep_dmacfg (s : State) : s.handOffStep.dmacfg = s.dmacfg := rfl
@[simp] theorem State.handOffStep_icq (s : State) : s.handOffStep.icq = s.icq := rfl
@[simp] theorem State.handOffStep_dma (s : State) : s.handOffStep.dma = s.dma := rfl
@[simp] theorem State.handOffStep_rome (s : State) : s.handOffStep.rome = { s.rome with rst := .inactive } := rfl
@[simp] theorem State.handOffStep_out (s : State) : s.handOffStep.out = { s.out with clkFast := true, bank := false } := rfl
@[simp] theorem State.handOffStep_dataBus (s : State) : s.handOffStep.dataBus = s.dataBus := rfl
@[simp] theorem State.handOffStep_inbox (s : State) : s.handOffStep.inbox = s.inbox := rfl
@[simp] theorem State.handOffStep_draws (s : State) : s.handOffStep.draws = s.draws := rfl

@[simp] theorem State.memerrEvent_cfg (s : State) (e : MemerrClearEvent) : (s.memerrEvent e).cfg = s.cfg := by
  unfold State.memerrEvent; split <;> rfl
@[simp] theorem State.memerrEvent_phase (s : State) (e : MemerrClearEvent) : (s.memerrEvent e).phase = s.phase := by
  unfold State.memerrEvent; split <;> rfl
@[simp] theorem State.memerrEvent_cur (s : State) (e : MemerrClearEvent) : (s.memerrEvent e).cur = s.cur := by
  unfold State.memerrEvent; split <;> rfl
@[simp] theorem State.memerrEvent_win (s : State) (e : MemerrClearEvent) : (s.memerrEvent e).win = s.win := by
  unfold State.memerrEvent; split <;> rfl
@[simp] theorem State.memerrEvent_arena (s : State) (e : MemerrClearEvent) : (s.memerrEvent e).arena = s.arena := by
  unfold State.memerrEvent; split <;> rfl
@[simp] theorem State.memerrEvent_epoch (s : State) (e : MemerrClearEvent) : (s.memerrEvent e).epoch = s.epoch := by
  unfold State.memerrEvent; split <;> rfl
@[simp] theorem State.memerrEvent_irq (s : State) (e : MemerrClearEvent) : (s.memerrEvent e).irq = s.irq := by
  unfold State.memerrEvent; split <;> rfl
@[simp] theorem State.memerrEvent_dmacfg (s : State) (e : MemerrClearEvent) : (s.memerrEvent e).dmacfg = s.dmacfg := by
  unfold State.memerrEvent; split <;> rfl
@[simp] theorem State.memerrEvent_icq (s : State) (e : MemerrClearEvent) : (s.memerrEvent e).icq = s.icq := by
  unfold State.memerrEvent; split <;> rfl
@[simp] theorem State.memerrEvent_dma (s : State) (e : MemerrClearEvent) : (s.memerrEvent e).dma = s.dma := by
  unfold State.memerrEvent; split <;> rfl
@[simp] theorem State.memerrEvent_rome (s : State) (e : MemerrClearEvent) : (s.memerrEvent e).rome = s.rome := by
  unfold State.memerrEvent; split <;> rfl
@[simp] theorem State.memerrEvent_out (s : State) (e : MemerrClearEvent) : (s.memerrEvent e).out = s.out := by
  unfold State.memerrEvent; split <;> rfl
@[simp] theorem State.memerrEvent_dataBus (s : State) (e : MemerrClearEvent) : (s.memerrEvent e).dataBus = s.dataBus := by
  unfold State.memerrEvent; split <;> rfl
@[simp] theorem State.memerrEvent_inbox (s : State) (e : MemerrClearEvent) : (s.memerrEvent e).inbox = s.inbox := by
  unfold State.memerrEvent; split <;> rfl
@[simp] theorem State.memerrEvent_draws (s : State) (e : MemerrClearEvent) : (s.memerrEvent e).draws = s.draws := by
  unfold State.memerrEvent; split <;> rfl

@[simp] theorem State.hostArenaWrite_cfg (s : State) (a : Nat) (v : Byte) : (s.hostArenaWrite a v).cfg = s.cfg := by
  unfold State.hostArenaWrite; split <;> rfl
@[simp] theorem State.hostArenaWrite_phase (s : State) (a : Nat) (v : Byte) : (s.hostArenaWrite a v).phase = s.phase := by
  unfold State.hostArenaWrite; split <;> rfl
@[simp] theorem State.hostArenaWrite_cur (s : State) (a : Nat) (v : Byte) : (s.hostArenaWrite a v).cur = s.cur := by
  unfold State.hostArenaWrite; split <;> rfl
@[simp] theorem State.hostArenaWrite_win (s : State) (a : Nat) (v : Byte) : (s.hostArenaWrite a v).win = s.win := by
  unfold State.hostArenaWrite; split <;> rfl
@[simp] theorem State.hostArenaWrite_arena (s : State) (a : Nat) (v : Byte) : (s.hostArenaWrite a v).arena = s.arena.write a v := by
  unfold State.hostArenaWrite; split <;> rfl
@[simp] theorem State.hostArenaWrite_epoch (s : State) (a : Nat) (v : Byte) : (s.hostArenaWrite a v).epoch = s.epoch := by
  unfold State.hostArenaWrite; split <;> rfl
@[simp] theorem State.hostArenaWrite_st (s : State) (a : Nat) (v : Byte) : (s.hostArenaWrite a v).st = s.st := by
  unfold State.hostArenaWrite; split <;> rfl
@[simp] theorem State.hostArenaWrite_irq (s : State) (a : Nat) (v : Byte) : (s.hostArenaWrite a v).irq = s.irq := by
  unfold State.hostArenaWrite; split <;> rfl
@[simp] theorem State.hostArenaWrite_dmacfg (s : State) (a : Nat) (v : Byte) : (s.hostArenaWrite a v).dmacfg = s.dmacfg := by
  unfold State.hostArenaWrite; split <;> rfl
@[simp] theorem State.hostArenaWrite_icq (s : State) (a : Nat) (v : Byte) : (s.hostArenaWrite a v).icq = s.icq := by
  unfold State.hostArenaWrite; split <;> rfl
@[simp] theorem State.hostArenaWrite_rome (s : State) (a : Nat) (v : Byte) : (s.hostArenaWrite a v).rome = s.rome := by
  unfold State.hostArenaWrite; split <;> rfl
@[simp] theorem State.hostArenaWrite_out (s : State) (a : Nat) (v : Byte) : (s.hostArenaWrite a v).out = s.out := by
  unfold State.hostArenaWrite; split <;> rfl
@[simp] theorem State.hostArenaWrite_dataBus (s : State) (a : Nat) (v : Byte) : (s.hostArenaWrite a v).dataBus = s.dataBus := by
  unfold State.hostArenaWrite; split <;> rfl
@[simp] theorem State.hostArenaWrite_inbox (s : State) (a : Nat) (v : Byte) : (s.hostArenaWrite a v).inbox = s.inbox := by
  unfold State.hostArenaWrite; split <;> rfl

@[simp] theorem State.autoStep_cfg (s : State) (w : WinNo) : (s.autoStep w).cfg = s.cfg := by
  unfold State.autoStep; split <;> rfl
@[simp] theorem State.autoStep_phase (s : State) (w : WinNo) : (s.autoStep w).phase = s.phase := by
  unfold State.autoStep; split <;> rfl
@[simp] theorem State.autoStep_win (s : State) (w : WinNo) : (s.autoStep w).win = s.win := by
  unfold State.autoStep; split <;> rfl
@[simp] theorem State.autoStep_arena (s : State) (w : WinNo) : (s.autoStep w).arena = s.arena := by
  unfold State.autoStep; split <;> rfl
@[simp] theorem State.autoStep_epoch (s : State) (w : WinNo) : (s.autoStep w).epoch = s.epoch := by
  unfold State.autoStep; split <;> rfl
@[simp] theorem State.autoStep_st (s : State) (w : WinNo) : (s.autoStep w).st = s.st := by
  unfold State.autoStep; split <;> rfl
@[simp] theorem State.autoStep_irq (s : State) (w : WinNo) : (s.autoStep w).irq = s.irq := by
  unfold State.autoStep; split <;> rfl
@[simp] theorem State.autoStep_dmacfg (s : State) (w : WinNo) : (s.autoStep w).dmacfg = s.dmacfg := by
  unfold State.autoStep; split <;> rfl
@[simp] theorem State.autoStep_icq (s : State) (w : WinNo) : (s.autoStep w).icq = s.icq := by
  unfold State.autoStep; split <;> rfl
@[simp] theorem State.autoStep_dma (s : State) (w : WinNo) : (s.autoStep w).dma = s.dma := by
  unfold State.autoStep; split <;> rfl
@[simp] theorem State.autoStep_rome (s : State) (w : WinNo) : (s.autoStep w).rome = s.rome := by
  unfold State.autoStep; split <;> rfl
@[simp] theorem State.autoStep_out (s : State) (w : WinNo) : (s.autoStep w).out = s.out := by
  unfold State.autoStep; split <;> rfl
@[simp] theorem State.autoStep_dataBus (s : State) (w : WinNo) : (s.autoStep w).dataBus = s.dataBus := by
  unfold State.autoStep; split <;> rfl
@[simp] theorem State.autoStep_inbox (s : State) (w : WinNo) : (s.autoStep w).inbox = s.inbox := by
  unfold State.autoStep; split <;> rfl
@[simp] theorem State.autoStep_draws (s : State) (w : WinNo) : (s.autoStep w).draws = s.draws := by
  unfold State.autoStep; split <;> rfl

@[simp] theorem State.cfgWrite_cfg (s : State) (i : CurNo) (d : Byte) (f : CfgField) : (s.cfgWrite i d f).cfg = s.cfg := by
  cases f <;> rfl
@[simp] theorem State.cfgWrite_phase (s : State) (i : CurNo) (d : Byte) (f : CfgField) : (s.cfgWrite i d f).phase = s.phase := by
  cases f <;> rfl
@[simp] theorem State.cfgWrite_win (s : State) (i : CurNo) (d : Byte) (f : CfgField) : (s.cfgWrite i d f).win = s.win := by
  cases f <;> rfl
@[simp] theorem State.cfgWrite_arena (s : State) (i : CurNo) (d : Byte) (f : CfgField) : (s.cfgWrite i d f).arena = s.arena := by
  cases f <;> rfl
@[simp] theorem State.cfgWrite_epoch (s : State) (i : CurNo) (d : Byte) (f : CfgField) : (s.cfgWrite i d f).epoch = s.epoch := by
  cases f <;> rfl
@[simp] theorem State.cfgWrite_st (s : State) (i : CurNo) (d : Byte) (f : CfgField) : (s.cfgWrite i d f).st = s.st := by
  cases f <;> rfl
@[simp] theorem State.cfgWrite_irq (s : State) (i : CurNo) (d : Byte) (f : CfgField) : (s.cfgWrite i d f).irq = s.irq := by
  cases f <;> rfl
@[simp] theorem State.cfgWrite_icq (s : State) (i : CurNo) (d : Byte) (f : CfgField) : (s.cfgWrite i d f).icq = s.icq := by
  cases f <;> rfl
@[simp] theorem State.cfgWrite_dma (s : State) (i : CurNo) (d : Byte) (f : CfgField) : (s.cfgWrite i d f).dma = s.dma := by
  cases f <;> rfl
@[simp] theorem State.cfgWrite_rome (s : State) (i : CurNo) (d : Byte) (f : CfgField) : (s.cfgWrite i d f).rome = s.rome := by
  cases f <;> rfl
@[simp] theorem State.cfgWrite_out (s : State) (i : CurNo) (d : Byte) (f : CfgField) : (s.cfgWrite i d f).out = s.out := by
  cases f <;> rfl
@[simp] theorem State.cfgWrite_dataBus (s : State) (i : CurNo) (d : Byte) (f : CfgField) : (s.cfgWrite i d f).dataBus = s.dataBus := by
  cases f <;> rfl
@[simp] theorem State.cfgWrite_inbox (s : State) (i : CurNo) (d : Byte) (f : CfgField) : (s.cfgWrite i d f).inbox = s.inbox := by
  cases f <;> rfl
@[simp] theorem State.cfgWrite_draws (s : State) (i : CurNo) (d : Byte) (f : CfgField) : (s.cfgWrite i d f).draws = s.draws := by
  cases f <;> rfl

@[simp] theorem State.popEvent_cfg (s : State) : s.popEvent.cfg = s.cfg := by
  unfold State.popEvent; split <;> rfl
@[simp] theorem State.popEvent_phase (s : State) : s.popEvent.phase = s.phase := by
  unfold State.popEvent; split <;> rfl
@[simp] theorem State.popEvent_cur (s : State) : s.popEvent.cur = s.cur := by
  unfold State.popEvent; split <;> rfl
@[simp] theorem State.popEvent_win (s : State) : s.popEvent.win = s.win := by
  unfold State.popEvent; split <;> rfl
@[simp] theorem State.popEvent_arena (s : State) : s.popEvent.arena = s.arena := by
  unfold State.popEvent; split <;> rfl
@[simp] theorem State.popEvent_epoch (s : State) : s.popEvent.epoch = s.epoch := by
  unfold State.popEvent; split <;> rfl
@[simp] theorem State.popEvent_st (s : State) : s.popEvent.st = s.st := by
  unfold State.popEvent; split <;> rfl
@[simp] theorem State.popEvent_irq (s : State) : s.popEvent.irq = s.irq := by
  unfold State.popEvent; split <;> rfl
@[simp] theorem State.popEvent_dmacfg (s : State) : s.popEvent.dmacfg = s.dmacfg := by
  unfold State.popEvent; split <;> rfl
@[simp] theorem State.popEvent_icq (s : State) : s.popEvent.icq = s.icq := by
  unfold State.popEvent; split <;> rfl
@[simp] theorem State.popEvent_dma (s : State) : s.popEvent.dma = s.dma := by
  unfold State.popEvent; split <;> rfl
@[simp] theorem State.popEvent_rome (s : State) : s.popEvent.rome = s.rome := by
  unfold State.popEvent; split <;> rfl
@[simp] theorem State.popEvent_out (s : State) : s.popEvent.out = s.out := by
  unfold State.popEvent; split <;> rfl
@[simp] theorem State.popEvent_dataBus (s : State) : s.popEvent.dataBus = none := by
  unfold State.popEvent; split <;> rfl

@[simp] theorem State.icqTryAdd_cfg (s : State) (e : CopyCmd) : (s.icqTryAdd e).cfg = s.cfg := by
  unfold State.icqTryAdd; split <;> rfl
@[simp] theorem State.icqTryAdd_phase (s : State) (e : CopyCmd) : (s.icqTryAdd e).phase = s.phase := by
  unfold State.icqTryAdd; split <;> rfl
@[simp] theorem State.icqTryAdd_cur (s : State) (e : CopyCmd) : (s.icqTryAdd e).cur = s.cur := by
  unfold State.icqTryAdd; split <;> rfl
@[simp] theorem State.icqTryAdd_win (s : State) (e : CopyCmd) : (s.icqTryAdd e).win = s.win := by
  unfold State.icqTryAdd; split <;> rfl
@[simp] theorem State.icqTryAdd_arena (s : State) (e : CopyCmd) : (s.icqTryAdd e).arena = s.arena := by
  unfold State.icqTryAdd; split <;> rfl
@[simp] theorem State.icqTryAdd_epoch (s : State) (e : CopyCmd) : (s.icqTryAdd e).epoch = s.epoch := by
  unfold State.icqTryAdd; split <;> rfl
@[simp] theorem State.icqTryAdd_st (s : State) (e : CopyCmd) : (s.icqTryAdd e).st = s.st := by
  unfold State.icqTryAdd; split <;> rfl
@[simp] theorem State.icqTryAdd_irq (s : State) (e : CopyCmd) : (s.icqTryAdd e).irq = s.irq := by
  unfold State.icqTryAdd; split <;> rfl
@[simp] theorem State.icqTryAdd_dmacfg (s : State) (e : CopyCmd) : (s.icqTryAdd e).dmacfg = s.dmacfg := by
  unfold State.icqTryAdd; split <;> rfl
@[simp] theorem State.icqTryAdd_dma (s : State) (e : CopyCmd) : (s.icqTryAdd e).dma = s.dma := by
  unfold State.icqTryAdd; split <;> rfl
@[simp] theorem State.icqTryAdd_rome (s : State) (e : CopyCmd) : (s.icqTryAdd e).rome = s.rome := by
  unfold State.icqTryAdd; split <;> rfl
@[simp] theorem State.icqTryAdd_out (s : State) (e : CopyCmd) : (s.icqTryAdd e).out = s.out := by
  unfold State.icqTryAdd; split <;> rfl
@[simp] theorem State.icqTryAdd_dataBus (s : State) (e : CopyCmd) : (s.icqTryAdd e).dataBus = s.dataBus := by
  unfold State.icqTryAdd; split <;> rfl
@[simp] theorem State.icqTryAdd_inbox (s : State) (e : CopyCmd) : (s.icqTryAdd e).inbox = s.inbox := by
  unfold State.icqTryAdd; split <;> rfl
@[simp] theorem State.icqTryAdd_draws (s : State) (e : CopyCmd) : (s.icqTryAdd e).draws = s.draws := by
  unfold State.icqTryAdd; split <;> rfl

end Sys2Proof.Machine
end

