-- ==== Sys2Proof/Laws/Memory.lean ====
section
/-! SUPPORT. The laws of the arena's memory: read after write, and the canonical form that every operation keeps. -/

namespace Sys2Proof.Machine

/-- A write is read back. -/
@[simp] theorem Memory.read_write_same (m : Memory) (a : Nat) (v : Byte) : (m.write a v).read a = some v := by
  induction m with
  | nil => simp [Memory.write, Memory.read]
  | cons c m ih =>
    obtain ⟨b, w⟩ := c
    by_cases h : a < b
    · simp [Memory.write, Memory.read, h]
    · by_cases h' : a = b
      · simp [Memory.write, Memory.read, h']
      · simp [Memory.write, Memory.read, h, h', ih]

/-- A write leaves every other offset alone. -/
theorem Memory.read_write_other (m : Memory) (a b : Nat) (v : Byte) (h : b ≠ a) :
    (m.write a v).read b = m.read b := by
  induction m with
  | nil => simp [Memory.write, Memory.read, h]
  | cons c m ih =>
    obtain ⟨c, w⟩ := c
    by_cases h1 : a < c
    · simp [Memory.write, Memory.read, h1, h]
    · by_cases h2 : a = c
      · subst h2; simp [Memory.write, Memory.read, h]
      · simp only [Memory.write, h1, h2, if_false, Memory.read]
        split <;> simp [ih]

/-- A lower bound of the offsets may be lowered. -/
theorem Memory.risingFrom_mono {m : Memory} {lo lo' : Nat} (h : lo' ≤ lo) (hm : Memory.risingFrom lo m = true) :
    Memory.risingFrom lo' m = true := by
  cases m with
  | nil => rfl
  | cons c m => simp only [Memory.risingFrom, Bool.and_eq_true, decide_eq_true_eq] at hm ⊢; exact ⟨by omega, hm.2⟩

/-- A write at or above the bound keeps the offsets strictly rising. -/
theorem Memory.risingFrom_write {m : Memory} {lo a : Nat} (v : Byte) (hm : Memory.risingFrom lo m = true) (h : lo ≤ a) :
    Memory.risingFrom lo (m.write a v) = true := by
  induction m generalizing lo with
  | nil => simp [Memory.write, Memory.risingFrom, h]
  | cons c m ih =>
    obtain ⟨b, w⟩ := c
    simp only [Memory.risingFrom, Bool.and_eq_true, decide_eq_true_eq] at hm
    by_cases h1 : a < b
    · simp only [Memory.write, h1, if_true, Memory.risingFrom, Bool.and_eq_true, decide_eq_true_eq]
      exact ⟨h, by omega, hm.2⟩
    · by_cases h2 : a = b
      · subst h2; simp only [Memory.write, h1, if_false, if_true, Memory.risingFrom, Bool.and_eq_true, decide_eq_true_eq]
        exact ⟨h, hm.2⟩
      · simp only [Memory.write, h1, h2, if_false, Memory.risingFrom, Bool.and_eq_true, decide_eq_true_eq]
        exact ⟨hm.1, ih hm.2 (by omega)⟩

/-- The entries after a write are the old ones and the new one. -/
theorem Memory.mem_write {m : Memory} {a : Nat} {v : Byte} {c : Host.Cell} (h : c ∈ m.write a v) :
    c = (a, v) ∨ c ∈ m := by
  induction m with
  | nil => simpa [Memory.write] using h
  | cons d m ih =>
    obtain ⟨b, w⟩ := d
    unfold Memory.write at h
    split at h
    · simpa using h
    · split at h
      · rcases List.mem_cons.mp h with h | h
        · exact .inl h
        · exact .inr (List.mem_cons_of_mem _ h)
      · rcases List.mem_cons.mp h with h | h
        · exact .inr (h ▸ List.mem_cons_self)
        · exact (ih h).imp id (List.mem_cons_of_mem _)

/-- A write at a valid offset keeps the canonical form. -/
theorem Memory.wf_write {m : Memory} {a : Nat} (v : Byte) (hm : m.wf = true) (h : a < Config.arenaSize) :
    (m.write a v).wf = true := by
  simp only [Memory.wf, Bool.and_eq_true, List.all_eq_true, decide_eq_true_eq] at hm ⊢
  refine ⟨Memory.risingFrom_write v hm.1 (Nat.zero_le a), fun c hc => ?_⟩
  rcases Memory.mem_write hc with rfl | hc
  · exact h
  · exact hm.2 c hc

/-- The memory after reset has the canonical form. -/
theorem reset_arena_wf : State.reset.arena.wf = true := rfl

/-- The byte at the offset just written. -/
@[simp] theorem State.arenaByte_arenaWrite_same (s : State) (a : Nat) (v : Byte) :
    (s.arenaWrite a v).arenaByte a = v := by
  simp [State.arenaByte]

/-- The byte at any other offset. -/
theorem State.arenaByte_arenaWrite_other (s : State) (a b : Nat) (v : Byte) (h : b ≠ a) :
    (s.arenaWrite a v).arenaByte b = s.arenaByte b := by
  simp [State.arenaByte, Memory.read_write_other s.arena a b v h]

/-- The arena's bytes depend on the list and the epoch alone. -/
theorem State.arenaByte_congr {s t : State} (ha : t.arena = s.arena) (he : t.epoch = s.epoch) (a : Nat) :
    t.arenaByte a = s.arenaByte a := by
  simp [State.arenaByte, ha, he]

end Sys2Proof.Machine
end

