-- ==== Sys2Proof/Laws/Ops.lean ====
section
/-! SUPPORT. For each shared operation, what it does: the provers cite these lemmas instead of unfolding it. -/

namespace Sys2Proof.Machine

/-! ### Cursors and windows -/

/-- The cursor just replaced. -/
@[simp] theorem State.cursor_setCursor_same (s : State) (i : CurNo) (c : Cursor) : (s.setCursor i c).cursor i = c := by
  simp [State.cursor, Vector.get_eq_getElem]

/-- Every other cursor. -/
theorem State.cursor_setCursor_other (s : State) {i j : CurNo} (c : Cursor) (h : j ≠ i) :
    (s.setCursor i c).cursor j = s.cursor j := by
  have : i.toNat ≠ j.toNat := fun e => h (BitVec.eq_of_toNat_eq e.symm)
  simp [State.cursor, Vector.get_eq_getElem, this]

/-- A change of every cursor. -/
@[simp] theorem State.cursor_mapCursors (s : State) (f : Cursor → Cursor) (i : CurNo) :
    (s.mapCursors f).cursor i = f (s.cursor i) := by
  simp [State.cursor, State.mapCursors, Vector.get_eq_getElem]

/-- Cursors are read from the cursor file alone. -/
theorem State.cursor_congr {s t : State} (h : t.cur = s.cur) (i : CurNo) : t.cursor i = s.cursor i := by
  simp [State.cursor, h]

/-- The window just replaced. -/
@[simp] theorem State.window_setWindow_same (s : State) (w : WinNo) (x : Window) : (s.setWindow w x).window w = x := by
  simp [State.window, Vector.get_eq_getElem]

/-- Every other window. -/
theorem State.window_setWindow_other (s : State) {v w : WinNo} (x : Window) (h : v ≠ w) :
    (s.setWindow w x).window v = s.window v := by
  have : w.toNat ≠ v.toNat := fun e => h (BitVec.eq_of_toNat_eq e.symm)
  simp [State.window, Vector.get_eq_getElem, this]

/-- Windows are read from the window file alone. -/
theorem State.window_congr {s t : State} (h : t.win = s.win) (w : WinNo) : t.window w = s.window w := by
  simp [State.window, h]

/-! ### What an update leaves alone: windows, cursors, arena bytes -/

@[simp] theorem State.release_window (s : State) (x' : WinNo) : (s.release).window x' = s.window x' :=
  State.window_congr (by simp) x'
@[simp] theorem State.release_cursor (s : State) (j : CurNo) : (s.release).cursor j = s.cursor j :=
  State.cursor_congr (by simp) j
@[simp] theorem State.release_arenaByte (s : State) (k : Nat) : (s.release).arenaByte k = s.arenaByte k :=
  State.arenaByte_congr (by simp) (by simp) k
@[simp] theorem State.drive_window (s : State) (v : Byte) (x' : WinNo) : (s.drive v).window x' = s.window x' :=
  State.window_congr (by simp) x'
@[simp] theorem State.drive_cursor (s : State) (v : Byte) (j : CurNo) : (s.drive v).cursor j = s.cursor j :=
  State.cursor_congr (by simp) j
@[simp] theorem State.drive_arenaByte (s : State) (v : Byte) (k : Nat) : (s.drive v).arenaByte k = s.arenaByte k :=
  State.arenaByte_congr (by simp) (by simp) k
@[simp] theorem State.tookDraw_window (s : State) (x' : WinNo) : (s.tookDraw).window x' = s.window x' :=
  State.window_congr (by simp) x'
@[simp] theorem State.tookDraw_cursor (s : State) (j : CurNo) : (s.tookDraw).cursor j = s.cursor j :=
  State.cursor_congr (by simp) j
@[simp] theorem State.tookDraw_arenaByte (s : State) (k : Nat) : (s.tookDraw).arenaByte k = s.arenaByte k :=
  State.arenaByte_congr (by simp) (by simp) k
@[simp] theorem State.driveDraw_window (s : State) (x' : WinNo) : (s.driveDraw).window x' = s.window x' :=
  State.window_congr (by simp) x'
@[simp] theorem State.driveDraw_cursor (s : State) (j : CurNo) : (s.driveDraw).cursor j = s.cursor j :=
  State.cursor_congr (by simp) j
@[simp] theorem State.driveDraw_arenaByte (s : State) (k : Nat) : (s.driveDraw).arenaByte k = s.arenaByte k :=
  State.arenaByte_congr (by simp) (by simp) k
@[simp] theorem State.raise_window (s : State) (b : Half) (x' : WinNo) : (s.raise b).window x' = s.window x' :=
  State.window_congr (by simp) x'
@[simp] theorem State.raise_cursor (s : State) (b : Half) (j : CurNo) : (s.raise b).cursor j = s.cursor j :=
  State.cursor_congr (by simp) j
@[simp] theorem State.raise_arenaByte (s : State) (b : Half) (k : Nat) : (s.raise b).arenaByte k = s.arenaByte k :=
  State.arenaByte_congr (by simp) (by simp) k
@[simp] theorem State.memerrEvent_window (s : State) (e : MemerrClearEvent) (x' : WinNo) : (s.memerrEvent e).window x' = s.window x' :=
  State.window_congr (by simp) x'
@[simp] theorem State.memerrEvent_cursor (s : State) (e : MemerrClearEvent) (j : CurNo) : (s.memerrEvent e).cursor j = s.cursor j :=
  State.cursor_congr (by simp) j
@[simp] theorem State.memerrEvent_arenaByte (s : State) (e : MemerrClearEvent) (k : Nat) : (s.memerrEvent e).arenaByte k = s.arenaByte k :=
  State.arenaByte_congr (by simp) (by simp) k
@[simp] theorem State.popEvent_window (s : State) (x' : WinNo) : (s.popEvent).window x' = s.window x' :=
  State.window_congr (by simp) x'
@[simp] theorem State.popEvent_cursor (s : State) (j : CurNo) : (s.popEvent).cursor j = s.cursor j :=
  State.cursor_congr (by simp) j
@[simp] theorem State.popEvent_arenaByte (s : State) (k : Nat) : (s.popEvent).arenaByte k = s.arenaByte k :=
  State.arenaByte_congr (by simp) (by simp) k
@[simp] theorem State.setCursor_window (s : State) (i : CurNo) (c : Cursor) (x' : WinNo) : (s.setCursor i c).window x' = s.window x' :=
  State.window_congr (by simp) x'
@[simp] theorem State.setCursor_arenaByte (s : State) (i : CurNo) (c : Cursor) (k : Nat) : (s.setCursor i c).arenaByte k = s.arenaByte k :=
  State.arenaByte_congr (by simp) (by simp) k
@[simp] theorem State.setWindow_cursor (s : State) (w : WinNo) (x : Window) (j : CurNo) : (s.setWindow w x).cursor j = s.cursor j :=
  State.cursor_congr (by simp) j
@[simp] theorem State.setWindow_arenaByte (s : State) (w : WinNo) (x : Window) (k : Nat) : (s.setWindow w x).arenaByte k = s.arenaByte k :=
  State.arenaByte_congr (by simp) (by simp) k
@[simp] theorem State.arenaWrite_window (s : State) (a : Nat) (v : Byte) (x' : WinNo) : (s.arenaWrite a v).window x' = s.window x' :=
  State.window_congr (by simp) x'
@[simp] theorem State.arenaWrite_cursor (s : State) (a : Nat) (v : Byte) (j : CurNo) : (s.arenaWrite a v).cursor j = s.cursor j :=
  State.cursor_congr (by simp) j
@[simp] theorem State.hostArenaWrite_window (s : State) (a : Nat) (v : Byte) (x' : WinNo) : (s.hostArenaWrite a v).window x' = s.window x' :=
  State.window_congr (by simp) x'
@[simp] theorem State.hostArenaWrite_cursor (s : State) (a : Nat) (v : Byte) (j : CurNo) : (s.hostArenaWrite a v).cursor j = s.cursor j :=
  State.cursor_congr (by simp) j
@[simp] theorem State.autoStep_window (s : State) (w : WinNo) (x' : WinNo) : (s.autoStep w).window x' = s.window x' :=
  State.window_congr (by simp) x'
@[simp] theorem State.autoStep_arenaByte (s : State) (w : WinNo) (k : Nat) : (s.autoStep w).arenaByte k = s.arenaByte k :=
  State.arenaByte_congr (by simp) (by simp) k
@[simp] theorem State.icqTryAdd_window (s : State) (e : CopyCmd) (x' : WinNo) : (s.icqTryAdd e).window x' = s.window x' :=
  State.window_congr (by simp) x'
@[simp] theorem State.icqTryAdd_cursor (s : State) (e : CopyCmd) (j : CurNo) : (s.icqTryAdd e).cursor j = s.cursor j :=
  State.cursor_congr (by simp) j
@[simp] theorem State.icqTryAdd_arenaByte (s : State) (e : CopyCmd) (k : Nat) : (s.icqTryAdd e).arenaByte k = s.arenaByte k :=
  State.arenaByte_congr (by simp) (by simp) k
@[simp] theorem State.cfgWrite_window (s : State) (i : CurNo) (d : Byte) (f : CfgField) (x' : WinNo) : (s.cfgWrite i d f).window x' = s.window x' :=
  State.window_congr (by simp) x'
@[simp] theorem State.cfgWrite_arenaByte (s : State) (i : CurNo) (d : Byte) (f : CfgField) (k : Nat) : (s.cfgWrite i d f).arenaByte k = s.arenaByte k :=
  State.arenaByte_congr (by simp) (by simp) k

/-! ### The IRQ controller -/

/-- Re-evaluation makes the line the pending condition, and changes nothing else (R295). -/
theorem Irq.reevaluate_spec (q : Irq) :
    q.reevaluate.line = q.reevaluate.pending ∧ q.reevaluate.cause = q.cause ∧ q.reevaluate.mask = q.mask
      ∧ q.reevaluate.enable = q.enable := ⟨rfl, rfl, rfl, rfl⟩

/-- `irq_set_bits` (R290). -/
theorem Irq.setBits_spec (q : Irq) (b : Half) :
    (q.setBits b).line = (q.setBits b).pending ∧ (q.setBits b).cause = q.cause ||| b ∧ (q.setBits b).mask = q.mask
      ∧ (q.setBits b).enable = q.enable := ⟨rfl, rfl, rfl, rfl⟩

/-- `irq_clear_cause` (R299). -/
theorem Irq.clearCause_spec (q : Irq) (m : Half) :
    (q.clearCause m).line = (q.clearCause m).pending ∧ (q.clearCause m).cause = q.cause &&& ~~~m
      ∧ (q.clearCause m).mask = q.mask ∧ (q.clearCause m).enable = q.enable := ⟨rfl, rfl, rfl, rfl⟩

/-- `irq_clear_all` (R310). -/
theorem Irq.clearAll_spec (q : Irq) :
    q.clearAll.line = false ∧ q.clearAll.cause = 0 ∧ q.clearAll.mask = q.mask ∧ q.clearAll.enable = q.enable := by
  refine ⟨?_, rfl, rfl, rfl⟩
  simp [Irq.clearAll, Irq.reevaluate, Irq.pending]

/-- `set_mask` (R304, R305). -/
theorem Irq.setMask_spec (q : Irq) (m : Half) :
    (q.setMask m).line = (q.setMask m).pending ∧ (q.setMask m).cause = q.cause ∧ (q.setMask m).mask = m
      ∧ (q.setMask m).enable = q.enable := ⟨rfl, rfl, rfl, rfl⟩

/-- `set_enable` (R307). -/
theorem Irq.setEnable_spec (q : Irq) (e : Bool) :
    (q.setEnable e).line = (q.setEnable e).pending ∧ (q.setEnable e).cause = q.cause ∧ (q.setEnable e).mask = q.mask
      ∧ (q.setEnable e).enable = e := ⟨rfl, rfl, rfl, rfl⟩

/-- `irq_init` gives the reset values (R311, 10_state.md R44). -/
theorem Irq.init_eq_reset (p : Params) (q : Irq) : Irq.init p q = resetIrq p := by
  simp [Irq.init, Irq.reevaluate, Irq.pending, resetIrq]

/-! ### Errors and their status bit -/

/-- An error sets the status bit and its cause bits, and the line follows (00_scope.md R13). -/
theorem State.raise_spec (s : State) (b : Half) :
    (s.raise b).st = { s.st with memerr := true }
      ∧ (s.raise b).irq = { s.irq with cause := s.irq.cause ||| b, line := (s.raise b).irq.pending } := ⟨rfl, rfl⟩

/-- What a named event of `MEMERR_CLEAR_EVENTS` does to the status bits (decision D11). -/
theorem State.memerrEvent_st (s : State) (e : MemerrClearEvent) :
    (s.memerrEvent e).st = { s.st with memerr := s.st.memerr && !s.cfg.memerrClearEvents.contains e } := by
  unfold State.memerrEvent
  cases h : s.cfg.memerrClearEvents.contains e <;> simp

/-! ### Operands -/

/-- Which addresses are valid (20_memory.md R81). -/
theorem addressValid_iff (a : Nat) : addressValid a = true ↔ a < 0x40000 := by
  unfold addressValid Config.arenaSize; exact decide_eq_true_iff

/-- The operand forms of a window, in terms of its latches. -/
theorem State.activeIndex_eq (s : State) (w : WinNo) : s.activeIndex w = (s.window w).idx := rfl

theorem State.activeCursor_eq (s : State) (w : WinNo) : s.activeCursor w = s.cursor (s.window w).idx := rfl

theorem State.effectiveAddress_eq (s : State) (w : WinNo) :
    s.effectiveAddress w = (s.cursor (s.window w).idx).current.toNat := rfl

/-- In phase BOOT a host address exists exactly while `out.bank` is 1, in `$FF00` to `$FFFF` with the local address as its
low byte (47_rom_emulator.md R321). -/
theorem State.hostAddress_boot {s : State} (h : s.phase = .boot) (a : Byte) :
    s.hostAddress a = if s.out.bank then some (0xFF00 + a.setWidth 16) else none := by
  unfold State.hostAddress; rw [h]

/-- In phase NORMAL the window stands at `HOST_MIA_BASE` (20_memory.md R82). -/
theorem State.hostAddress_normal {s : State} (h : s.phase = .normal) (a : Byte) :
    s.hostAddress a = some (s.cfg.hostMiaBase + a.setWidth 16) := by
  unfold State.hostAddress; rw [h]

/-! ### Cursor flags and the step -/

/-- A single flag bit, as the spec's pseudocode tests it. -/
theorem flag_iff (f : Byte) (k : Nat) (h : k < 8) : f.getLsbD k = true ↔ f &&& (1#8 <<< k) ≠ 0 := by
  interval_cases k <;> revert f <;> decide

/-- `AUTO_STEP` (10_state.md R33). -/
theorem Cursor.autoStep_iff (c : Cursor) : Cursor.autoStep c = true ↔ c.flags &&& 0x01 ≠ 0 := flag_iff c.flags 0 (by decide)

/-- `DIRECTION` (10_state.md R33). -/
theorem Cursor.backward_iff (c : Cursor) : Cursor.backward c = true ↔ c.flags &&& 0x02 ≠ 0 := flag_iff c.flags 1 (by decide)

/-- `WRAP_ON_LIMIT` (10_state.md R33). -/
theorem Cursor.wrapOnLimit_iff (c : Cursor) : Cursor.wrapOnLimit c = true ↔ c.flags &&& 0x04 ≠ 0 :=
  flag_iff c.flags 2 (by decide)

/-- A step writes `current` alone. -/
theorem Cursor.stepped_frame (c : Cursor) :
    (Cursor.stepped c).dflt = c.dflt ∧ (Cursor.stepped c).limit = c.limit ∧ (Cursor.stepped c).step = c.step
      ∧ (Cursor.stepped c).flags = c.flags := ⟨rfl, rfl, rfl, rfl⟩

/-- The active cursor after the auto-step. -/
theorem State.autoStep_cursor_active (s : State) (w : WinNo) :
    (s.autoStep w).cursor (s.window w).idx
      = if (s.activeCursor w).flags &&& 0x01 ≠ 0 then Cursor.stepped (s.activeCursor w) else s.activeCursor w := by
  unfold State.autoStep
  by_cases h : Cursor.autoStep (s.activeCursor w) = true
  · rw [if_pos h, if_pos ((Cursor.autoStep_iff _).mp h)]
    exact State.cursor_setCursor_same s (s.window w).idx _
  · rw [if_neg h, if_neg (fun h' => h ((Cursor.autoStep_iff _).mpr h'))]; rfl

/-- Every other cursor keeps its value in the auto-step. -/
theorem State.autoStep_cursor_other (s : State) (w : WinNo) {j : CurNo} (h : j ≠ (s.window w).idx) :
    (s.autoStep w).cursor j = s.cursor j := by
  unfold State.autoStep
  split
  · exact State.cursor_setCursor_other s _ h
  · rfl

/-! ### Host writes to the arena -/

/-- When a source byte is still to be transferred (45_dma_icq.md R268). -/
theorem State.sourcePending_iff (s : State) (a : Nat) :
    s.sourcePending a = true ↔ s.dma.active = true ∧ s.dma.src.toNat ≤ a
      ∧ a < s.dma.src.toNat + s.dma.count.toNat ∧ a - s.dma.src.toNat ∉ s.dma.done := by
  simp [State.sourcePending, and_assoc]

/-- A host write stores its byte and leaves every other arena byte. -/
theorem State.hostArenaWrite_arenaByte (s : State) (a b : Nat) (v : Byte) :
    (s.hostArenaWrite a v).arenaByte b = if b = a then v else s.arenaByte b := by
  split
  · rename_i h; subst h; simp [State.arenaByte]
  · rename_i h; simp [State.arenaByte, Memory.read_write_other _ _ _ _ h]

/-- What a host write does to a running copy: nothing, unless it hits a source byte still to be transferred; then that
byte of `snap` is the old or the new one (45_dma_icq.md R268). -/
theorem State.hostArenaWrite_dma (s : State) (a : Nat) (v : Byte) :
    (s.sourcePending a = false → (s.hostArenaWrite a v).dma = s.dma ∧ (s.hostArenaWrite a v).draws = s.draws)
      ∧ (s.sourcePending a = true → (s.hostArenaWrite a v).draws = s.draws + 1
        ∧ ((s.hostArenaWrite a v).dma = s.dma
          ∨ (s.hostArenaWrite a v).dma = { s.dma with snap := s.dma.snap.set (a - s.dma.src.toNat) v })) := by
  unfold State.hostArenaWrite
  constructor <;> intro h <;> rw [h]
  · exact ⟨rfl, rfl⟩
  · refine ⟨rfl, ?_⟩
    cases Config.sourceRace s.draws
    · exact .inl rfl
    · exact .inr rfl

/-- Whatever a host write hits, it keeps all of the copy but the bytes of `snap`, and their number. -/
theorem State.hostArenaWrite_dma_frame (s : State) (a : Nat) (v : Byte) :
    (s.hostArenaWrite a v).dma = { s.dma with snap := (s.hostArenaWrite a v).dma.snap }
      ∧ (s.hostArenaWrite a v).dma.snap.length = s.dma.snap.length := by
  have h := State.hostArenaWrite_dma s a v
  cases hp : s.sourcePending a
  · rw [(h.1 hp).1]; exact ⟨rfl, rfl⟩
  · rcases (h.2 hp).2 with e | e <;> rw [e]
    · exact ⟨rfl, rfl⟩
    · exact ⟨rfl, by simp⟩

/-! ### Bytes of fields -/

/-- A bit of byte `k` of a field. -/
theorem fieldByte_getLsbD {n : Nat} (f : BitVec n) (k j : Nat) (h : j < 8) :
    (fieldByte f k).getLsbD j = f.getLsbD (8 * k + j) := by
  simp [fieldByte, h]

/-- A bit of a field with byte `k` replaced (30_encoding.md R118). -/
theorem replaceByte_getLsbD {n : Nat} (f : BitVec n) (k : Nat) (d : Byte) (j : Nat) (h : j < n) (hn : 8 ≤ n) :
    (replaceByte f k d).getLsbD j
      = if 8 * k ≤ j ∧ j < 8 * k + 8 then d.getLsbD (j - 8 * k) else f.getLsbD j := by
  have h255 : ∀ i, Nat.testBit 255 i = decide (i < 8) := fun i => Nat.testBit_two_pow_sub_one 8 i
  simp only [replaceByte, BitVec.getLsbD_or, BitVec.getLsbD_and, BitVec.getLsbD_not, BitVec.getLsbD_shiftLeft,
    BitVec.getLsbD_setWidth, h, BitVec.getLsbD_ofNat, decide_true, Bool.true_and, h255]
  by_cases h1 : j < 8 * k
  · simp [h1]
  · have hb : ∀ i, 8 ≤ i → d.getLsbD i = false := fun i hi => BitVec.getLsbD_of_ge d i hi
    by_cases h2 : j < 8 * k + 8
    · have : j - 8 * k < 8 := by omega
      have : j - 8 * k < n := by omega
      simp [*]
    · have : ¬ j - 8 * k < 8 := by omega
      simp [h1, h2, this, hb (j - 8 * k) (by omega)]

/-- Reading back the byte just replaced, of a 24-bit field. -/
theorem fieldByte_replaceByte_same24 (f : BitVec 24) (k : Nat) (d : Byte) (hk : k < 3) :
    fieldByte (replaceByte f k d) k = d := by
  apply BitVec.eq_of_getLsbD_eq
  intro j hj
  rw [fieldByte_getLsbD _ _ _ hj, replaceByte_getLsbD _ _ _ _ (by omega) (by omega)]
  rw [if_pos (by omega)]; congr 1; omega

/-- The other bytes of a 24-bit field keep their value. -/
theorem fieldByte_replaceByte_other24 (f : BitVec 24) (k l : Nat) (d : Byte) (hl : l < 3) (h : l ≠ k) :
    fieldByte (replaceByte f k d) l = fieldByte f l := by
  apply BitVec.eq_of_getLsbD_eq
  intro j hj
  rw [fieldByte_getLsbD _ _ _ hj, fieldByte_getLsbD _ _ _ hj, replaceByte_getLsbD _ _ _ _ (by omega) (by omega)]
  rw [if_neg (by omega)]

/-- Reading back the byte just replaced, of a 16-bit field. -/
theorem fieldByte_replaceByte_same16 (f : BitVec 16) (k : Nat) (d : Byte) (hk : k < 2) :
    fieldByte (replaceByte f k d) k = d := by
  apply BitVec.eq_of_getLsbD_eq
  intro j hj
  rw [fieldByte_getLsbD _ _ _ hj, replaceByte_getLsbD _ _ _ _ (by omega) (by omega)]
  rw [if_pos (by omega)]; congr 1; omega

/-- The other byte of a 16-bit field keeps its value. -/
theorem fieldByte_replaceByte_other16 (f : BitVec 16) (k l : Nat) (d : Byte) (hl : l < 2) (h : l ≠ k) :
    fieldByte (replaceByte f k d) l = fieldByte f l := by
  apply BitVec.eq_of_getLsbD_eq
  intro j hj
  rw [fieldByte_getLsbD _ _ _ hj, fieldByte_getLsbD _ _ _ hj, replaceByte_getLsbD _ _ _ _ (by omega) (by omega)]
  rw [if_neg (by omega)]

/-! ### The set of transferred offsets -/

/-- The members after an insertion. -/
@[simp] theorem mem_insertOffset (k j : Nat) (l : List Nat) : j ∈ insertOffset k l ↔ j = k ∨ j ∈ l := by
  induction l with
  | nil => simp [insertOffset]
  | cons i l ih =>
    unfold insertOffset
    split
    · simp
    · split
      · rename_i h; subst h; simp
      · simp only [List.mem_cons, ih]; tauto

/-- An insertion keeps the list strictly rising. -/
theorem insertOffset_pairwise (k : Nat) {l : List Nat} (h : l.Pairwise (· < ·)) :
    (insertOffset k l).Pairwise (· < ·) := by
  induction l with
  | nil => simp [insertOffset]
  | cons i l ih =>
    have h' := List.pairwise_cons.mp h
    unfold insertOffset
    split
    · refine List.pairwise_cons.mpr ⟨?_, h⟩
      intro j hj
      rcases List.mem_cons.mp hj with rfl | hj
      · assumption
      · have := h'.1 j hj; omega
    · split
      · exact h
      · refine List.pairwise_cons.mpr ⟨?_, ih h'.2⟩
        intro j hj
        rcases (mem_insertOffset k j l).mp hj with rfl | hj
        · omega
        · exact h'.1 j hj

/-- `allDone` says that every offset of the copy is in the set. -/
theorem Dma.allDone_iff (m : Dma) : Dma.allDone m = true ↔ ∀ k, k < m.count.toNat → k ∈ m.done := by
  simp [Dma.allDone]

/-! ### Copies -/

/-- Precondition 1 of a copy (45_dma_icq.md R265). -/
theorem copyStartsValid_iff (src dst : Nat) : copyStartsValid src dst = true ↔ src < 0x40000 ∧ dst < 0x40000 := by
  rw [copyStartsValid, Bool.and_eq_true, addressValid_iff, addressValid_iff]

/-- Preconditions 2 to 4 of a copy (45_dma_icq.md R265). -/
theorem copyBoundsValid_iff (active : Bool) (src dst n : Nat) :
    copyBoundsValid active src dst n = true
      ↔ 0 < n ∧ active = false ∧ src + n ≤ 0x40000 ∧ dst + n ≤ 0x40000 := by
  rw [copyBoundsValid, Bool.and_eq_true, Bool.and_eq_true, Bool.and_eq_true, decide_eq_true_iff, decide_eq_true_iff,
    decide_eq_true_iff, Bool.not_eq_true', and_assoc, and_assoc]
  rfl

/-- The copy that `Start` begins (45_dma_icq.md R267). -/
theorem State.startCopy_dma (s : State) (src dst : Addr) (n : Half) :
    (s.startCopy src dst n).dma = ⟨true, src, dst, n, [], (List.range n.toNat).map fun k => s.arenaByte (src.toNat + k)⟩ :=
  rfl

/-- The three outcomes of `process_copy_command`, which exclude each other (45_dma_icq.md R264, R266). -/
theorem State.processCopy_cases (s : State) (e : CopyCmd) :
    (¬ copyStartsValid (s.cursor e.srcIdx).current.toNat (s.cursor e.dstIdx).current.toNat = true
        ∧ s.processCopy e = s.raise causeMemoryError)
      ∨ (copyStartsValid (s.cursor e.srcIdx).current.toNat (s.cursor e.dstIdx).current.toNat = true
        ∧ ¬ copyBoundsValid s.dma.active (s.cursor e.srcIdx).current.toNat (s.cursor e.dstIdx).current.toNat
            e.count.toNat = true
        ∧ s.processCopy e = s.raise causeDmaError)
      ∨ (copyStartsValid (s.cursor e.srcIdx).current.toNat (s.cursor e.dstIdx).current.toNat = true
        ∧ copyBoundsValid s.dma.active (s.cursor e.srcIdx).current.toNat (s.cursor e.dstIdx).current.toNat
            e.count.toNat = true
        ∧ s.processCopy e = s.startCopy (s.cursor e.srcIdx).current (s.cursor e.dstIdx).current e.count) := by
  cases h1 : copyStartsValid (s.cursor e.srcIdx).current.toNat (s.cursor e.dstIdx).current.toNat
  · exact .inl ⟨Bool.false_ne_true, if_pos (by rw [h1]; rfl)⟩
  · refine .inr ?_
    cases h2 : copyBoundsValid s.dma.active (s.cursor e.srcIdx).current.toNat (s.cursor e.dstIdx).current.toNat
        e.count.toNat
    · exact .inl ⟨rfl, Bool.false_ne_true, (if_neg (by rw [h1]; decide)).trans (if_pos (by rw [h2]; rfl))⟩
    · exact .inr ⟨rfl, rfl, (if_neg (by rw [h1]; decide)).trans (if_neg (by rw [h2]; decide))⟩

/-- The arena after `Transfer(k)`: one destination byte takes its byte of `snap` (45_dma_icq.md R268). -/
theorem State.transferStep_arenaByte (s : State) (k a : Nat) :
    (s.transferStep k).arenaByte a
      = if a = s.dma.dst.toNat + k then s.dma.snap.getD k (s.arenaByte (s.dma.src.toNat + k)) else s.arenaByte a := by
  have h : (s.transferStep k).arenaByte a
      = (s.arenaWrite (s.dma.dst.toNat + k) (s.dma.snap.getD k (s.arenaByte (s.dma.src.toNat + k)))).arenaByte a := rfl
  rw [h]
  split
  · rename_i ha; rw [ha, State.arenaByte_arenaWrite_same]
  · rename_i ha; rw [State.arenaByte_arenaWrite_other _ _ _ _ ha]

/-- The arena's list after `Transfer(k)`. -/
theorem State.transferStep_arena (s : State) (k : Nat) :
    (s.transferStep k).arena
      = s.arena.write (s.dma.dst.toNat + k) (s.dma.snap.getD k (s.arenaByte (s.dma.src.toNat + k))) := rfl

/-! ### Words and lines -/

/-- A bit of a transaction word (30_encoding.md R110). -/
theorem mkTxn_getLsbD (wr : Bool) (d a : Byte) (j : Nat) :
    (mkTxn wr d a).getLsbD j
      = if j < 8 then a.getLsbD j else if j < 16 then d.getLsbD (j - 8) else decide (j = 16) && wr := by
  simp only [mkTxn, BitVec.getLsbD_or, BitVec.getLsbD_shiftLeft, BitVec.getLsbD_setWidth, BitVec.getLsbD_ofBool]
  by_cases h1 : j < 8
  · simp [h1, show j < 16 by omega, show j < 17 by omega]
  · have ha : a.getLsbD j = false := BitVec.getLsbD_of_ge a j (by omega)
    by_cases h2 : j < 16
    · simp [h1, h2, ha, show j < 17 by omega, show j - 8 < 17 by omega]
    · have hd : d.getLsbD (j - 8) = false := BitVec.getLsbD_of_ge d _ (by omega)
      by_cases h3 : j = 16
      · subst h3; simp
      · simp [h1, h2, h3, ha, hd, show ¬ j < 17 by omega]

/-- The fields of a transaction word (30_encoding.md R110). -/
@[simp] theorem Txn.isWrite_mkTxn (wr : Bool) (d a : Byte) : Txn.isWrite (mkTxn wr d a) = wr := by
  rw [Txn.isWrite, mkTxn_getLsbD]; simp

@[simp] theorem Txn.data_mkTxn (wr : Bool) (d a : Byte) : Txn.data (mkTxn wr d a) = d := by
  apply BitVec.eq_of_getLsbD_eq
  intro j hj
  simp [Txn.data, mkTxn_getLsbD, hj, show 8 + j < 16 by omega]

@[simp] theorem Txn.addr_mkTxn (wr : Bool) (d a : Byte) : Txn.addr (mkTxn wr d a) = a := by
  apply BitVec.eq_of_getLsbD_eq
  intro j hj
  simp [Txn.addr, mkTxn_getLsbD, hj]

/-- A transaction word is its three fields (30_encoding.md R110). -/
theorem mkTxn_fields (t : Txn) : mkTxn (Txn.isWrite t) (Txn.data t) (Txn.addr t) = t := by
  apply BitVec.eq_of_getLsbD_eq
  intro j hj
  simp only [mkTxn_getLsbD, Txn.isWrite, Txn.data, Txn.addr, BitVec.getLsbD_extractLsb']
  by_cases h1 : j < 8
  · simp [h1]
  · by_cases h2 : j < 16
    · simp [h1, h2, show j - 8 < 8 by omega, show 8 + (j - 8) = j by omega]
    · have : j = 16 := by omega
      subst this; simp

/-- The lines of a cycle carry its word: the direction is the word's. -/
theorem BusPins.direction_pins (t : Txn) :
    BusPins.direction (Txn.pins t) = if Txn.isWrite t then .write else .read := by
  cases h : Txn.isWrite t <;> simp [BusPins.direction, Txn.pins, h]

/-- A cycle with the lines of a word serves that word. -/
theorem busCycle_pins (t : Txn) (overrun : Bool) (s : State) : busCycle (Txn.pins t) overrun s = serveCycle t overrun s := by
  have h := mkTxn_fields t
  cases hw : Txn.isWrite t <;> simp only [busCycle, BusPins.direction_pins, hw] <;> rw [hw] at h <;>
    simp [Txn.pins, h]

/-! ### Steps -/

/-- What one step can do, by the event it takes: a disabled agent step changes nothing but the taking of the event. -/
theorem step_eq (s : State) : step s = runEvent s.nextEvent s.popEvent := rfl

end Sys2Proof.Machine
end

