-- ==== Sys2Proof/Laws/Decode.lean ====
section
/-! SUPPORT. The decoder by its fields: a word written from a window address or a shared address decodes by the register
map alone, and the default arms of the maps are reached exactly by the words that the spec calls reserved or unknown. -/

namespace Sys2Proof

/-- The fields of a window address (30_encoding.md R111). -/
theorem windowAddr_fields (w : WinNo) (o : BitVec 4) :
    (windowAddr w o).getLsbD 7 = false ∧ (windowAddr w o).extractLsb' 4 3 = w ∧ (windowAddr w o).extractLsb' 0 4 = o := by
  revert w o; decide

/-- The fields of a shared address (30_encoding.md R111). -/
theorem sharedAddr_fields (r : BitVec 7) : (sharedAddr r).getLsbD 7 = true ∧ (sharedAddr r).extractLsb' 0 7 = r := by
  revert r; decide

/-- An address with bit 7 clear is a window address. -/
theorem windowAddr_of_fields (a : Byte) (h : a.getLsbD 7 = false) :
    windowAddr (a.extractLsb' 4 3) (a.extractLsb' 0 4) = a := by
  revert h; revert a; decide

/-- An address with bit 7 set is a shared address. -/
theorem sharedAddr_of_fields (a : Byte) (h : a.getLsbD 7 = true) : sharedAddr (a.extractLsb' 0 7) = a := by
  revert h; revert a; decide

/-- A word at a window address decodes by the window register map (30_encoding.md R112). -/
theorem decodeNormal_windowAddr (wr : Bool) (d : Byte) (w : WinNo) (o : BitVec 4) :
    decodeNormal (mkTxn wr d (windowAddr w o)) = decodeWindow wr w o d := by
  have h := windowAddr_fields w o
  rw [decodeNormal, Machine.Txn.addr_mkTxn, Machine.Txn.isWrite_mkTxn, Machine.Txn.data_mkTxn, h.1, h.2.1, h.2.2]; rfl

/-- A word at a shared address decodes by the shared register map (30_encoding.md R113). -/
theorem decodeNormal_sharedAddr (wr : Bool) (d : Byte) (r : BitVec 7) :
    decodeNormal (mkTxn wr d (sharedAddr r)) = decodeShared wr r d := by
  have h := sharedAddr_fields r
  rw [decodeNormal, Machine.Txn.addr_mkTxn, Machine.Txn.isWrite_mkTxn, Machine.Txn.data_mkTxn, h.1, h.2]; rfl

/-- The offsets of the window map (30_encoding.md R112). -/
theorem windowOffset_cases (o : BitVec 4) : o = 0 ∨ o = 1 ∨ o = 2 ∨ o = 3 ∨ o = 4 ∨ 5 ≤ o.toNat := by
  revert o; decide

/-- The registers of the shared map (30_encoding.md R113). -/
theorem sharedRegister_cases (r : BitVec 7) :
    r = 0x70 ∨ r = 0x71 ∨ r = 0x72 ∨ r = 0x73 ∨ r = 0x74 ∨ r = 0x75 ∨ r = 0x7F ∨ sharedRecognised r = false := by
  revert r; decide

/-- The reserved offsets. -/
theorem decodeWindow_reserved (wr : Bool) (d : Byte) (w : WinNo) (o : BitVec 4) (h : 5 ≤ o.toNat) :
    decodeWindow wr w o d = if wr then .wrWinReserved w o d else .rdWinReserved w o := by
  have hne : ∀ k : BitVec 4, k.toNat < 5 → o ≠ k := by rintro k hk rfl; omega
  unfold decodeWindow
  rw [if_neg (hne _ (by decide)), if_neg (hne _ (by decide)), if_neg (hne _ (by decide)), if_neg (hne _ (by decide)),
    if_neg (hne _ (by decide))]

/-- The reserved shared registers. -/
theorem decodeShared_reserved (wr : Bool) (d : Byte) (r : BitVec 7) (h : sharedRecognised r = false) :
    decodeShared wr r d = if wr then .wrSharedReserved r d else .rdSharedReserved r := by
  simp only [sharedRecognised, Bool.or_eq_false_iff, decide_eq_false_iff_not] at h
  obtain ⟨⟨⟨⟨⟨⟨h1, h2⟩, h3⟩, h4⟩, h5⟩, h6⟩, h7⟩ := h
  unfold decodeShared
  rw [if_neg h1, if_neg h2, if_neg h3, if_neg h4, if_neg h5, if_neg h6, if_neg h7]

/-- The opcodes of a window command (30_encoding.md R116). -/
theorem decodeCommand_cases (w : WinNo) (d : Byte) :
    (d = 0x00 ∧ decodeCommand w d = .cmdNop w) ∨ (d = 0x01 ∧ decodeCommand w d = .cmdResetIndex w)
      ∨ (d = 0x02 ∧ decodeCommand w d = .cmdSetDefaultToAddr w) ∨ (d = 0x03 ∧ decodeCommand w d = .cmdSetLimitToAddr w)
      ∨ (4 ≤ d.toNat ∧ decodeCommand w d = .cmdUnknown w d) := by
  by_cases h : 4 ≤ d.toNat
  · have hne : ∀ k : Byte, k.toNat < 4 → d ≠ k := by rintro k hk rfl; omega
    refine .inr (.inr (.inr (.inr ⟨h, ?_⟩)))
    unfold decodeCommand
    rw [if_neg (hne _ (by decide)), if_neg (hne _ (by decide)), if_neg (hne _ (by decide)), if_neg (hne _ (by decide))]
  · have hd : d = 0x00 ∨ d = 0x01 ∨ d = 0x02 ∨ d = 0x03 := by revert h; revert d; decide
    rcases hd with rfl | rfl | rfl | rfl <;> simp [decodeCommand]

/-- The opcodes of a shared command (30_encoding.md R116). -/
theorem decodeSharedCommand_cases (d : Byte) :
    (d = 0x00 ∧ decodeSharedCommand d = .scmdNop) ∨ (d = 0x01 ∧ decodeSharedCommand d = .scmdResetAllIdx)
      ∨ (d = 0x02 ∧ decodeSharedCommand d = .scmdFactoryResetAllIdx)
      ∨ (d = 0x03 ∧ decodeSharedCommand d = .scmdClearIrq) ∨ (d = 0x04 ∧ decodeSharedCommand d = .scmdCopyBlock)
      ∨ (d = 0x05 ∧ decodeSharedCommand d = .scmdSystemReset) ∨ (6 ≤ d.toNat ∧ decodeSharedCommand d = .scmdUnknown d) := by
  by_cases h : 6 ≤ d.toNat
  · have hne : ∀ k : Byte, k.toNat < 6 → d ≠ k := by rintro k hk rfl; omega
    refine .inr (.inr (.inr (.inr (.inr (.inr ⟨h, ?_⟩)))))
    unfold decodeSharedCommand
    rw [if_neg (hne _ (by decide)), if_neg (hne _ (by decide)), if_neg (hne _ (by decide)), if_neg (hne _ (by decide)),
      if_neg (hne _ (by decide)), if_neg (hne _ (by decide))]
  · have hd : d = 0x00 ∨ d = 0x01 ∨ d = 0x02 ∨ d = 0x03 ∨ d = 0x04 ∨ d = 0x05 := by revert h; revert d; decide
    rcases hd with rfl | rfl | rfl | rfl | rfl | rfl <;> simp [decodeSharedCommand]

/-- The four single ROME addresses of an admitted configuration are four regions (47_rom_emulator.md R321). -/
theorem romeRegion_of_valid {p : Params} (h : Machine.Params.valid p = true) :
    Machine.romeRegion p p.romeVecLo = .vectorLo ∧ Machine.romeRegion p p.romeVecHi = .vectorHi
      ∧ Machine.romeRegion p p.kstatusAddr = .kstatus ∧ Machine.romeRegion p p.kdataAddr = .kdata := by
  simp only [Machine.Params.valid, Machine.romeRegionsDisjoint, Bool.and_eq_true, decide_eq_true_eq] at h
  obtain ⟨⟨⟨⟨_, _⟩, ⟨⟨⟨⟨⟨hn, _⟩, _⟩, _⟩, _⟩, _⟩⟩, _⟩, _⟩ := h
  simp only [List.nodup_cons, List.mem_cons, List.not_mem_nil, or_false, not_or, not_false_eq_true, List.nodup_nil,
    and_true] at hn
  obtain ⟨⟨h1, h2, h3⟩, ⟨h4, h5⟩, h6⟩ := hn
  refine ⟨by simp [Machine.romeRegion], ?_, ?_, ?_⟩
  · simp [Machine.romeRegion, Ne.symm h1]
  · simp [Machine.romeRegion, Ne.symm h2, Ne.symm h4]
  · simp [Machine.romeRegion, Ne.symm h3, Ne.symm h5, Ne.symm h6]

end Sys2Proof
end

