-- ==== Sys2Proof/Laws/PerInstr.lean ====
section
/-! SUPPORT. The per-instruction family `EncodeMatchesRow`: the word of a well-formed instruction is a word of its row of
spec/opcode_table.json, "T & mask = match" (30_encoding.md R121, R123). -/

namespace Sys2Proof

/-- Two transaction words are combined bit by bit, so field by field. -/
theorem mkTxn_and (wr wr' : Bool) (d d' a a' : Byte) :
    mkTxn wr d a &&& mkTxn wr' d' a' = mkTxn (wr && wr') (d &&& d') (a &&& a') := by
  apply BitVec.eq_of_getLsbD_eq
  intro j hj
  simp only [BitVec.getLsbD_and, Machine.mkTxn_getLsbD]
  by_cases h1 : j < 8
  · simp [h1]
  · by_cases h2 : j < 16
    · simp [h1, h2]
    · cases wr <;> cases wr' <;> simp [h1, h2]

/-- Two words written by their fields are equal where the fields are. -/
theorem mkTxn_inj {wr wr' : Bool} {d d' a a' : Byte} :
    mkTxn wr d a = mkTxn wr' d' a' ↔ wr = wr' ∧ d = d' ∧ a = a' := by
  constructor
  · intro h
    have h1 := congrArg Txn.isWrite h
    have h2 := congrArg Txn.data h
    have h3 := congrArg Txn.addr h
    simp only [Machine.Txn.isWrite_mkTxn, Machine.Txn.data_mkTxn, Machine.Txn.addr_mkTxn] at h1 h2 h3
    exact ⟨h1, h2, h3⟩
  · rintro ⟨rfl, rfl, rfl⟩; rfl

/-- A mask and a pattern written by their fields select a word where they select its fields (30_encoding.md R123). -/
theorem txn_matches_iff (t : Txn) (mw pw : Bool) (md ma pd pa : Byte) :
    t &&& mkTxn mw md ma = mkTxn pw pd pa
      ↔ (Txn.isWrite t && mw) = pw ∧ Txn.data t &&& md = pd ∧ Txn.addr t &&& ma = pa := by
  conv_lhs => rw [← Machine.mkTxn_fields t, mkTxn_and, mkTxn_inj]

/-- The bits of a window address that the table fixes: bit 7 and the offset (30_encoding.md R112). -/
theorem windowAddr_and_offset (w : WinNo) (o : BitVec 4) : windowAddr w o &&& 0x8F = o.setWidth 8 := by
  revert w o; decide

/-- A window address has bit 7 clear (30_encoding.md R111). -/
theorem windowAddr_and_shared (w : WinNo) (o : BitVec 4) : windowAddr w o &&& 0x80 = 0x00 := by
  revert w o; decide

/-- A shared address has bit 7 set (30_encoding.md R111). -/
theorem sharedAddr_and_shared (r : BitVec 7) : sharedAddr r &&& 0x80 = 0x80 := by
  revert r; decide

end Sys2Proof

namespace Sys2Proof.Laws.EncodeMatchesRow

/-- The word of a well-formed instruction matches the row of its mnemonic, in every configuration whose ROME addresses
are those the table writes. -/
def Statement (i : Instr) : Prop :=
  ∀ p, tableAddressesApply p → i.wf p = true →
    ∃ row ∈ opcodeRows, row.mnemonic = i.mnemonic ∧ encode p i &&& row.mask = row.pattern

/-- A word, a mask and a pattern written by their fields agree where the fields do. -/
theorem matches_of_fields {wr mw pw : Bool} {d md pd a ma pa : Byte} {m p : Txn} (hm : m = mkTxn mw md ma)
    (hp : p = mkTxn pw pd pa) (h1 : (wr && mw) = pw) (h2 : d &&& md = pd) (h3 : a &&& ma = pa) :
    mkTxn wr d a &&& m = p := by
  subst hm hp h1 h2 h3; exact mkTxn_and ..

theorem rdIdxSelect (w : WinNo) : Statement (.rdIdxSelect w) := by
  intro p _ _
  exact ⟨⟨"RD_IDX_SELECT", .normal, 0x1008F, 0x00000, .none⟩, by simp [opcodeRows, normalRows, bootRows], rfl,
    matches_of_fields (mw := true) (md := 0x00) (ma := 0x8F) (pw := false) (pd := 0x00) (pa := 0x00)
      (by decide) (by decide) rfl (by decide) (windowAddr_and_offset w _)⟩

theorem wrIdxSelect (w : WinNo) (d : Byte) : Statement (.wrIdxSelect w d) := by
  intro p _ _
  exact ⟨⟨"WR_IDX_SELECT", .normal, 0x1008F, 0x10000, .none⟩, by simp [opcodeRows, normalRows, bootRows], rfl,
    matches_of_fields (mw := true) (md := 0x00) (ma := 0x8F) (pw := true) (pd := 0x00) (pa := 0x00)
      (by decide) (by decide) rfl (by simp) (windowAddr_and_offset w _)⟩

theorem rdDataPort (w : WinNo) : Statement (.rdDataPort w) := by
  intro p _ _
  exact ⟨⟨"RD_DATA_PORT", .normal, 0x1008F, 0x00001, .none⟩, by simp [opcodeRows, normalRows, bootRows], rfl,
    matches_of_fields (mw := true) (md := 0x00) (ma := 0x8F) (pw := false) (pd := 0x00) (pa := 0x01)
      (by decide) (by decide) rfl (by decide) (windowAddr_and_offset w _)⟩

theorem wrDataPort (w : WinNo) (d : Byte) : Statement (.wrDataPort w d) := by
  intro p _ _
  exact ⟨⟨"WR_DATA_PORT", .normal, 0x1008F, 0x10001, .none⟩, by simp [opcodeRows, normalRows, bootRows], rfl,
    matches_of_fields (mw := true) (md := 0x00) (ma := 0x8F) (pw := true) (pd := 0x00) (pa := 0x01)
      (by decide) (by decide) rfl (by simp) (windowAddr_and_offset w _)⟩

theorem rdCfgFieldSelect (w : WinNo) : Statement (.rdCfgFieldSelect w) := by
  intro p _ _
  exact ⟨⟨"RD_CFG_FIELD_SELECT", .normal, 0x1008F, 0x00002, .none⟩, by simp [opcodeRows, normalRows, bootRows], rfl,
    matches_of_fields (mw := true) (md := 0x00) (ma := 0x8F) (pw := false) (pd := 0x00) (pa := 0x02)
      (by decide) (by decide) rfl (by decide) (windowAddr_and_offset w _)⟩

theorem wrCfgFieldSelect (w : WinNo) (d : Byte) : Statement (.wrCfgFieldSelect w d) := by
  intro p _ _
  exact ⟨⟨"WR_CFG_FIELD_SELECT", .normal, 0x1008F, 0x10002, .none⟩, by simp [opcodeRows, normalRows, bootRows], rfl,
    matches_of_fields (mw := true) (md := 0x00) (ma := 0x8F) (pw := true) (pd := 0x00) (pa := 0x02)
      (by decide) (by decide) rfl (by simp) (windowAddr_and_offset w _)⟩

theorem rdCfgData (w : WinNo) : Statement (.rdCfgData w) := by
  intro p _ _
  exact ⟨⟨"RD_CFG_DATA", .normal, 0x1008F, 0x00003, .none⟩, by simp [opcodeRows, normalRows, bootRows], rfl,
    matches_of_fields (mw := true) (md := 0x00) (ma := 0x8F) (pw := false) (pd := 0x00) (pa := 0x03)
      (by decide) (by decide) rfl (by decide) (windowAddr_and_offset w _)⟩

theorem wrCfgData (w : WinNo) (d : Byte) : Statement (.wrCfgData w d) := by
  intro p _ _
  exact ⟨⟨"WR_CFG_DATA", .normal, 0x1008F, 0x10003, .none⟩, by simp [opcodeRows, normalRows, bootRows], rfl,
    matches_of_fields (mw := true) (md := 0x00) (ma := 0x8F) (pw := true) (pd := 0x00) (pa := 0x03)
      (by decide) (by decide) rfl (by simp) (windowAddr_and_offset w _)⟩

theorem rdCommand (w : WinNo) : Statement (.rdCommand w) := by
  intro p _ _
  exact ⟨⟨"RD_COMMAND", .normal, 0x1008F, 0x00004, .none⟩, by simp [opcodeRows, normalRows, bootRows], rfl,
    matches_of_fields (mw := true) (md := 0x00) (ma := 0x8F) (pw := false) (pd := 0x00) (pa := 0x04)
      (by decide) (by decide) rfl (by decide) (windowAddr_and_offset w _)⟩

theorem cmdNop (w : WinNo) : Statement (.cmdNop w) := by
  intro p _ _
  exact ⟨⟨"CMD_NOP", .normal, 0x1FF8F, 0x10004, .none⟩, by simp [opcodeRows, normalRows, bootRows], rfl,
    matches_of_fields (mw := true) (md := 0xFF) (ma := 0x8F) (pw := true) (pd := 0x00) (pa := 0x04)
      (by decide) (by decide) rfl (by decide) (windowAddr_and_offset w _)⟩

theorem cmdResetIndex (w : WinNo) : Statement (.cmdResetIndex w) := by
  intro p _ _
  exact ⟨⟨"CMD_RESET_INDEX", .normal, 0x1FF8F, 0x10104, .none⟩, by simp [opcodeRows, normalRows, bootRows], rfl,
    matches_of_fields (mw := true) (md := 0xFF) (ma := 0x8F) (pw := true) (pd := 0x01) (pa := 0x04)
      (by decide) (by decide) rfl (by decide) (windowAddr_and_offset w _)⟩

theorem cmdSetDefaultToAddr (w : WinNo) : Statement (.cmdSetDefaultToAddr w) := by
  intro p _ _
  exact ⟨⟨"CMD_SET_DEFAULT_TO_ADDR", .normal, 0x1FF8F, 0x10204, .none⟩, by simp [opcodeRows, normalRows, bootRows], rfl,
    matches_of_fields (mw := true) (md := 0xFF) (ma := 0x8F) (pw := true) (pd := 0x02) (pa := 0x04)
      (by decide) (by decide) rfl (by decide) (windowAddr_and_offset w _)⟩

theorem cmdSetLimitToAddr (w : WinNo) : Statement (.cmdSetLimitToAddr w) := by
  intro p _ _
  exact ⟨⟨"CMD_SET_LIMIT_TO_ADDR", .normal, 0x1FF8F, 0x10304, .none⟩, by simp [opcodeRows, normalRows, bootRows], rfl,
    matches_of_fields (mw := true) (md := 0xFF) (ma := 0x8F) (pw := true) (pd := 0x03) (pa := 0x04)
      (by decide) (by decide) rfl (by decide) (windowAddr_and_offset w _)⟩

theorem cmdUnknown (w : WinNo) (d : Byte) : Statement (.cmdUnknown w d) := by
  intro p _ _
  exact ⟨⟨"CMD_UNKNOWN", .normal, 0x1008F, 0x10004, .cmdUnknown⟩, by simp [opcodeRows, normalRows, bootRows], rfl,
    matches_of_fields (mw := true) (md := 0x00) (ma := 0x8F) (pw := true) (pd := 0x00) (pa := 0x04)
      (by decide) (by decide) rfl (by simp) (windowAddr_and_offset w _)⟩

theorem rdWinReserved (w : WinNo) (o : BitVec 4) : Statement (.rdWinReserved w o) := by
  intro p _ _
  exact ⟨⟨"RD_WIN_RESERVED", .normal, 0x10080, 0x00000, .winReserved⟩, by simp [opcodeRows, normalRows, bootRows], rfl,
    matches_of_fields (mw := true) (md := 0x00) (ma := 0x80) (pw := false) (pd := 0x00) (pa := 0x00)
      (by decide) (by decide) rfl (by decide) (windowAddr_and_shared w o)⟩

theorem wrWinReserved (w : WinNo) (o : BitVec 4) (d : Byte) : Statement (.wrWinReserved w o d) := by
  intro p _ _
  exact ⟨⟨"WR_WIN_RESERVED", .normal, 0x10080, 0x10000, .winReserved⟩, by simp [opcodeRows, normalRows, bootRows], rfl,
    matches_of_fields (mw := true) (md := 0x00) (ma := 0x80) (pw := true) (pd := 0x00) (pa := 0x00)
      (by decide) (by decide) rfl (by simp) (windowAddr_and_shared w o)⟩

theorem rdDeviceStatus : Statement .rdDeviceStatus := by
  intro p _ _
  exact ⟨⟨"RD_DEVICE_STATUS", .normal, 0x100FF, 0x000F0, .none⟩, by simp [opcodeRows, normalRows, bootRows], rfl,
    matches_of_fields (mw := true) (md := 0x00) (ma := 0xFF) (pw := false) (pd := 0x00) (pa := 0xF0)
      (by decide) (by decide) rfl (by decide) (by decide)⟩

theorem wrDeviceStatus (d : Byte) : Statement (.wrDeviceStatus d) := by
  intro p _ _
  exact ⟨⟨"WR_DEVICE_STATUS", .normal, 0x100FF, 0x100F0, .none⟩, by simp [opcodeRows, normalRows, bootRows], rfl,
    matches_of_fields (mw := true) (md := 0x00) (ma := 0xFF) (pw := true) (pd := 0x00) (pa := 0xF0)
      (by decide) (by decide) rfl (by simp) (by decide)⟩

theorem rdIrqCauseLow : Statement .rdIrqCauseLow := by
  intro p _ _
  exact ⟨⟨"RD_IRQ_CAUSE_LOW", .normal, 0x100FF, 0x000F1, .none⟩, by simp [opcodeRows, normalRows, bootRows], rfl,
    matches_of_fields (mw := true) (md := 0x00) (ma := 0xFF) (pw := false) (pd := 0x00) (pa := 0xF1)
      (by decide) (by decide) rfl (by decide) (by decide)⟩

theorem wrIrqCauseLow (d : Byte) : Statement (.wrIrqCauseLow d) := by
  intro p _ _
  exact ⟨⟨"WR_IRQ_CAUSE_LOW", .normal, 0x100FF, 0x100F1, .none⟩, by simp [opcodeRows, normalRows, bootRows], rfl,
    matches_of_fields (mw := true) (md := 0x00) (ma := 0xFF) (pw := true) (pd := 0x00) (pa := 0xF1)
      (by decide) (by decide) rfl (by simp) (by decide)⟩

theorem rdIrqCauseHigh : Statement .rdIrqCauseHigh := by
  intro p _ _
  exact ⟨⟨"RD_IRQ_CAUSE_HIGH", .normal, 0x100FF, 0x000F2, .none⟩, by simp [opcodeRows, normalRows, bootRows], rfl,
    matches_of_fields (mw := true) (md := 0x00) (ma := 0xFF) (pw := false) (pd := 0x00) (pa := 0xF2)
      (by decide) (by decide) rfl (by decide) (by decide)⟩

theorem wrIrqCauseHigh (d : Byte) : Statement (.wrIrqCauseHigh d) := by
  intro p _ _
  exact ⟨⟨"WR_IRQ_CAUSE_HIGH", .normal, 0x100FF, 0x100F2, .none⟩, by simp [opcodeRows, normalRows, bootRows], rfl,
    matches_of_fields (mw := true) (md := 0x00) (ma := 0xFF) (pw := true) (pd := 0x00) (pa := 0xF2)
      (by decide) (by decide) rfl (by simp) (by decide)⟩

theorem rdIrqMaskLow : Statement .rdIrqMaskLow := by
  intro p _ _
  exact ⟨⟨"RD_IRQ_MASK_LOW", .normal, 0x100FF, 0x000F3, .none⟩, by simp [opcodeRows, normalRows, bootRows], rfl,
    matches_of_fields (mw := true) (md := 0x00) (ma := 0xFF) (pw := false) (pd := 0x00) (pa := 0xF3)
      (by decide) (by decide) rfl (by decide) (by decide)⟩

theorem wrIrqMaskLow (d : Byte) : Statement (.wrIrqMaskLow d) := by
  intro p _ _
  exact ⟨⟨"WR_IRQ_MASK_LOW", .normal, 0x100FF, 0x100F3, .none⟩, by simp [opcodeRows, normalRows, bootRows], rfl,
    matches_of_fields (mw := true) (md := 0x00) (ma := 0xFF) (pw := true) (pd := 0x00) (pa := 0xF3)
      (by decide) (by decide) rfl (by simp) (by decide)⟩

theorem rdIrqMaskHigh : Statement .rdIrqMaskHigh := by
  intro p _ _
  exact ⟨⟨"RD_IRQ_MASK_HIGH", .normal, 0x100FF, 0x000F4, .none⟩, by simp [opcodeRows, normalRows, bootRows], rfl,
    matches_of_fields (mw := true) (md := 0x00) (ma := 0xFF) (pw := false) (pd := 0x00) (pa := 0xF4)
      (by decide) (by decide) rfl (by decide) (by decide)⟩

theorem wrIrqMaskHigh (d : Byte) : Statement (.wrIrqMaskHigh d) := by
  intro p _ _
  exact ⟨⟨"WR_IRQ_MASK_HIGH", .normal, 0x100FF, 0x100F4, .none⟩, by simp [opcodeRows, normalRows, bootRows], rfl,
    matches_of_fields (mw := true) (md := 0x00) (ma := 0xFF) (pw := true) (pd := 0x00) (pa := 0xF4)
      (by decide) (by decide) rfl (by simp) (by decide)⟩

theorem rdIrqEnable : Statement .rdIrqEnable := by
  intro p _ _
  exact ⟨⟨"RD_IRQ_ENABLE", .normal, 0x100FF, 0x000F5, .none⟩, by simp [opcodeRows, normalRows, bootRows], rfl,
    matches_of_fields (mw := true) (md := 0x00) (ma := 0xFF) (pw := false) (pd := 0x00) (pa := 0xF5)
      (by decide) (by decide) rfl (by decide) (by decide)⟩

theorem wrIrqEnable (d : Byte) : Statement (.wrIrqEnable d) := by
  intro p _ _
  exact ⟨⟨"WR_IRQ_ENABLE", .normal, 0x100FF, 0x100F5, .none⟩, by simp [opcodeRows, normalRows, bootRows], rfl,
    matches_of_fields (mw := true) (md := 0x00) (ma := 0xFF) (pw := true) (pd := 0x00) (pa := 0xF5)
      (by decide) (by decide) rfl (by simp) (by decide)⟩

theorem rdSharedCommand : Statement .rdSharedCommand := by
  intro p _ _
  exact ⟨⟨"RD_SHARED_COMMAND", .normal, 0x100FF, 0x000FF, .none⟩, by simp [opcodeRows, normalRows, bootRows], rfl,
    matches_of_fields (mw := true) (md := 0x00) (ma := 0xFF) (pw := false) (pd := 0x00) (pa := 0xFF)
      (by decide) (by decide) rfl (by decide) (by decide)⟩

theorem scmdNop : Statement .scmdNop := by
  intro p _ _
  exact ⟨⟨"SCMD_NOP", .normal, 0x1FFFF, 0x100FF, .none⟩, by simp [opcodeRows, normalRows, bootRows], rfl,
    matches_of_fields (mw := true) (md := 0xFF) (ma := 0xFF) (pw := true) (pd := 0x00) (pa := 0xFF)
      (by decide) (by decide) rfl (by decide) (by decide)⟩

theorem scmdResetAllIdx : Statement .scmdResetAllIdx := by
  intro p _ _
  exact ⟨⟨"SCMD_RESET_ALL_IDX", .normal, 0x1FFFF, 0x101FF, .none⟩, by simp [opcodeRows, normalRows, bootRows], rfl,
    matches_of_fields (mw := true) (md := 0xFF) (ma := 0xFF) (pw := true) (pd := 0x01) (pa := 0xFF)
      (by decide) (by decide) rfl (by decide) (by decide)⟩

theorem scmdFactoryResetAllIdx : Statement .scmdFactoryResetAllIdx := by
  intro p _ _
  exact ⟨⟨"SCMD_FACTORY_RESET_ALL_IDX", .normal, 0x1FFFF, 0x102FF, .none⟩, by simp [opcodeRows, normalRows, bootRows], rfl,
    matches_of_fields (mw := true) (md := 0xFF) (ma := 0xFF) (pw := true) (pd := 0x02) (pa := 0xFF)
      (by decide) (by decide) rfl (by decide) (by decide)⟩

theorem scmdClearIrq : Statement .scmdClearIrq := by
  intro p _ _
  exact ⟨⟨"SCMD_CLEAR_IRQ", .normal, 0x1FFFF, 0x103FF, .none⟩, by simp [opcodeRows, normalRows, bootRows], rfl,
    matches_of_fields (mw := true) (md := 0xFF) (ma := 0xFF) (pw := true) (pd := 0x03) (pa := 0xFF)
      (by decide) (by decide) rfl (by decide) (by decide)⟩

theorem scmdCopyBlock : Statement .scmdCopyBlock := by
  intro p _ _
  exact ⟨⟨"SCMD_COPY_BLOCK", .normal, 0x1FFFF, 0x104FF, .none⟩, by simp [opcodeRows, normalRows, bootRows], rfl,
    matches_of_fields (mw := true) (md := 0xFF) (ma := 0xFF) (pw := true) (pd := 0x04) (pa := 0xFF)
      (by decide) (by decide) rfl (by decide) (by decide)⟩

theorem scmdSystemReset : Statement .scmdSystemReset := by
  intro p _ _
  exact ⟨⟨"SCMD_SYSTEM_RESET", .normal, 0x1FFFF, 0x105FF, .none⟩, by simp [opcodeRows, normalRows, bootRows], rfl,
    matches_of_fields (mw := true) (md := 0xFF) (ma := 0xFF) (pw := true) (pd := 0x05) (pa := 0xFF)
      (by decide) (by decide) rfl (by decide) (by decide)⟩

theorem scmdUnknown (d : Byte) : Statement (.scmdUnknown d) := by
  intro p _ _
  exact ⟨⟨"SCMD_UNKNOWN", .normal, 0x100FF, 0x100FF, .scmdUnknown⟩, by simp [opcodeRows, normalRows, bootRows], rfl,
    matches_of_fields (mw := true) (md := 0x00) (ma := 0xFF) (pw := true) (pd := 0x00) (pa := 0xFF)
      (by decide) (by decide) rfl (by simp) (by decide)⟩

theorem rdSharedReserved (r : BitVec 7) : Statement (.rdSharedReserved r) := by
  intro p _ _
  exact ⟨⟨"RD_SHARED_RESERVED", .normal, 0x10080, 0x00080, .sharedReserved⟩, by simp [opcodeRows, normalRows, bootRows], rfl,
    matches_of_fields (mw := true) (md := 0x00) (ma := 0x80) (pw := false) (pd := 0x00) (pa := 0x80)
      (by decide) (by decide) rfl (by decide) (sharedAddr_and_shared r)⟩

theorem wrSharedReserved (r : BitVec 7) (d : Byte) : Statement (.wrSharedReserved r d) := by
  intro p _ _
  exact ⟨⟨"WR_SHARED_RESERVED", .normal, 0x10080, 0x10080, .sharedReserved⟩, by simp [opcodeRows, normalRows, bootRows], rfl,
    matches_of_fields (mw := true) (md := 0x00) (ma := 0x80) (pw := true) (pd := 0x00) (pa := 0x80)
      (by decide) (by decide) rfl (by simp) (sharedAddr_and_shared r)⟩

theorem romRdVectorLo : Statement .romRdVectorLo := by
  intro p hp _
  exact ⟨⟨"ROM_RD_VECTOR_LO", .boot, 0x100FF, 0x000FC, .serving⟩, by simp [opcodeRows, normalRows, bootRows], rfl,
    matches_of_fields (mw := true) (md := 0x00) (ma := 0xFF) (pw := false) (pd := 0x00) (pa := 0xFC)
      (by decide) (by decide) rfl (by decide) (by rw [hp.1]; decide)⟩

theorem romRdVectorHi : Statement .romRdVectorHi := by
  intro p hp _
  exact ⟨⟨"ROM_RD_VECTOR_HI", .boot, 0x100FF, 0x000FD, .serving⟩, by simp [opcodeRows, normalRows, bootRows], rfl,
    matches_of_fields (mw := true) (md := 0x00) (ma := 0xFF) (pw := false) (pd := 0x00) (pa := 0xFD)
      (by decide) (by decide) rfl (by decide) (by rw [hp.2.1]; decide)⟩

theorem romRdKstatus : Statement .romRdKstatus := by
  intro p hp _
  exact ⟨⟨"ROM_RD_KSTATUS", .boot, 0x100FF, 0x000E0, .serving⟩, by simp [opcodeRows, normalRows, bootRows], rfl,
    matches_of_fields (mw := true) (md := 0x00) (ma := 0xFF) (pw := false) (pd := 0x00) (pa := 0xE0)
      (by decide) (by decide) rfl (by decide) (by rw [hp.2.2.1]; decide)⟩

theorem romRdKdata : Statement .romRdKdata := by
  intro p hp _
  exact ⟨⟨"ROM_RD_KDATA", .boot, 0x100FF, 0x000E1, .serving⟩, by simp [opcodeRows, normalRows, bootRows], rfl,
    matches_of_fields (mw := true) (md := 0x00) (ma := 0xFF) (pw := false) (pd := 0x00) (pa := 0xE1)
      (by decide) (by decide) rfl (by decide) (by rw [hp.2.2.2]; decide)⟩

theorem romRdBootloader (a : Byte) : Statement (.romRdBootloader a) := by
  intro p _ _
  exact ⟨⟨"ROM_RD_BOOTLOADER", .boot, 0x10000, 0x00000, .bootloader⟩, by simp [opcodeRows, normalRows, bootRows], rfl,
    matches_of_fields (mw := true) (md := 0x00) (ma := 0x00) (pw := false) (pd := 0x00) (pa := 0x00)
      (by decide) (by decide) rfl (by decide) (by simp)⟩

theorem romRdOther (a : Byte) : Statement (.romRdOther a) := by
  intro p _ _
  exact ⟨⟨"ROM_RD_OTHER", .boot, 0x10000, 0x00000, .filler⟩, by simp [opcodeRows, normalRows, bootRows], rfl,
    matches_of_fields (mw := true) (md := 0x00) (ma := 0x00) (pw := false) (pd := 0x00) (pa := 0x00)
      (by decide) (by decide) rfl (by decide) (by simp)⟩

theorem romWr (a : Byte) (d : Byte) : Statement (.romWr a d) := by
  intro p _ _
  exact ⟨⟨"ROM_WR", .boot, 0x10000, 0x10000, .serving⟩, by simp [opcodeRows, normalRows, bootRows], rfl,
    matches_of_fields (mw := true) (md := 0x00) (ma := 0x00) (pw := true) (pd := 0x00) (pa := 0x00)
      (by decide) (by decide) rfl (by simp) (by simp)⟩

theorem romCycleNotServing (t : Txn) : Statement (.romCycleNotServing t) := by
  intro p _ _
  exact ⟨⟨"ROM_CYCLE_NOT_SERVING", .boot, 0x00000, 0x00000, .notServing⟩, by simp [opcodeRows, normalRows, bootRows], rfl, by simp [encode]⟩

end Sys2Proof.Laws.EncodeMatchesRow
end

