-- ==== Sys2Proof/Laws/Reset.lean ====
section
/-! SUPPORT. The default cursor table, the reference configuration and the state after reset, as lemmas that spare the
unfolding of the 256 records. -/

namespace Sys2Proof.Machine

/-- The records of the table, in order (10_state.md R40). -/
theorem defaultTable_toList (b : Addr) : (defaultTable b).toList = (List.range 256).map (defaultCursor b) := by
  unfold defaultTable; rfl

/-- One record of the table. -/
theorem defaultTable_get (b : Addr) (i : Fin 256) : (defaultTable b).get i = defaultCursor b i.val := by
  simp [defaultTable, Vector.get_eq_getElem]

/-- The opaque images of the reference configuration have the lengths that `Config` bounds. -/
theorem reference_bootloader_length : Params.reference.bootloaderImage.length = Config.bootloaderLength.val := by
  show (List.map _ (List.range _)).length = _; simp

theorem reference_kernel_length : Params.reference.kernelImage.length = Config.kernelLength.toNat := by
  show (List.map _ (List.range _)).length = _; simp

/-- One record of the table that a configuration's resets install (10_state.md R40). -/
theorem cursorTable_get (p : Params) (i : Fin 256) :
    (Params.cursorTable p).get i = Params.cursorRecord p i.val (p.defaultTable.get i) := by
  simp [Params.cursorTable, Vector.get_eq_getElem]

/-- A palette bank stands at `PALETTE_BASE`, whatever the table holds there (conflict C5). -/
theorem cursorRecord_palette (p : Params) {k : Nat} (h : k < 16) (c : Cursor) :
    Params.cursorRecord p (32 + k) c = paletteRecord p.paletteBase k := by
  unfold Params.cursorRecord; rw [if_pos (by omega)]; congr 1; omega

/-- Every other record is the table's. -/
theorem cursorRecord_other (p : Params) {i : Nat} (h : i < 32 ∨ 47 < i) (c : Cursor) :
    Params.cursorRecord p i c = c := by
  unfold Params.cursorRecord; rw [if_neg (by omega)]

/-- The reference table has its own palette banks where `PALETTE_BASE` puts them. -/
theorem cursorRecord_defaultCursor (p : Params) (i : Nat) :
    Params.cursorRecord p i (defaultCursor p.paletteBase i) = defaultCursor p.paletteBase i := by
  unfold Params.cursorRecord
  split
  · rename_i h
    unfold defaultCursor
    rw [if_neg (by omega), if_neg (by omega), if_pos h]
  · rfl

/-- The cursors after a reset are the configuration's table (10_state.md R44). -/
theorem State.powerOn_cursor (p : Params) (epoch : Nat) (inbox : List Event) (draws : Nat) (i : CurNo) :
    (State.powerOn p epoch inbox draws).cursor i
      = Params.cursorRecord p i.toNat (p.defaultTable.get ⟨i.toNat, i.isLt⟩) :=
  cursorTable_get p ⟨i.toNat, i.isLt⟩

/-- Every window selects cursor 0 with selector 0 after a reset (10_state.md R44). -/
theorem State.powerOn_window (p : Params) (epoch : Nat) (inbox : List Event) (draws : Nat) (w : WinNo) :
    (State.powerOn p epoch inbox draws).window w = ⟨0, 0⟩ := by
  have h : ∀ w : WinNo, resetWindows.get ⟨w.toNat, w.isLt⟩ = ⟨0, 0⟩ := by decide
  exact h w

/-- Every arena byte is a draw of the epoch after a reset (10_state.md R44). -/
theorem State.powerOn_arenaByte (p : Params) (epoch : Nat) (inbox : List Event) (draws : Nat) (a : Nat) :
    (State.powerOn p epoch inbox draws).arenaByte a = Config.arenaDraw epoch a := rfl

end Sys2Proof.Machine
end

