-- ==== Sys2Proof/Laws/Steps.lean ====
section
/-! SUPPORT. What a bus cycle and a step can do, said once: the provers cite these lemmas instead of unfolding `step`. -/

namespace Sys2Proof.Machine

/-- Every instruction has a next state in every state: no meaning faults or refuses. -/
theorem exec_completes (i : Instr) (s : State) : ∃ t, exec i s = .next t := by
  cases i <;> simp only [exec, execRdDataPort, execWrDataPort, execRomRdKdata] <;> first
    | exact ⟨_, rfl⟩
    | (split <;> exact ⟨_, rfl⟩)

/-- A `DATA_PORT` read, by the validity of the address (42_ime_data_port.md R181, R185). -/
theorem exec_rdDataPort_valid {w : WinNo} {s : State} (h : (s.cursor (s.window w).idx).current.toNat < 0x40000) :
    exec (.rdDataPort w) s
      = .next ((s.autoStep w).drive (s.arenaByte (s.cursor (s.window w).idx).current.toNat)) :=
  if_pos ((addressValid_iff _).mpr h)

theorem exec_rdDataPort_invalid {w : WinNo} {s : State} (h : 0x40000 ≤ (s.cursor (s.window w).idx).current.toNat) :
    exec (.rdDataPort w) s = .next ((s.raise causeMemoryError).drive 0x00) :=
  if_neg fun h' => absurd ((addressValid_iff _).mp h') (Nat.not_lt.mpr h)

/-- A `DATA_PORT` write, by the validity of the address (42_ime_data_port.md R182, R185). -/
theorem exec_wrDataPort_valid {w : WinNo} {d : Byte} {s : State}
    (h : (s.cursor (s.window w).idx).current.toNat < 0x40000) :
    exec (.wrDataPort w d) s
      = .next ((s.hostArenaWrite (s.cursor (s.window w).idx).current.toNat d).autoStep w).release :=
  if_pos ((addressValid_iff _).mpr h)

theorem exec_wrDataPort_invalid {w : WinNo} {d : Byte} {s : State}
    (h : 0x40000 ≤ (s.cursor (s.window w).idx).current.toNat) :
    exec (.wrDataPort w d) s = .next (s.raise causeMemoryError).release :=
  if_neg fun h' => absurd ((addressValid_iff _).mp h') (Nat.not_lt.mpr h)

/-- What one bus cycle can do (40_bus_frontend.md R142, R146, R148, R149). -/
theorem busCycle_cases {p : BusPins} {overrun : Bool} {s t : State} (h : busCycle p overrun s = .next t) :
    (BusPins.direction p = .notSelected ∧ t = s)
      ∨ (BusPins.direction p = .noAccess ∧ t = s.release)
      ∨ ∃ x, ((BusPins.direction p = .read ∧ x = mkTxn false p.d p.a)
          ∨ (BusPins.direction p = .write ∧ x = mkTxn true p.d p.a))
        ∧ ((s.phase = .normal ∧ overrun = true ∧ t = s.overrunCycle x)
          ∨ ((s.phase = .normal → overrun = false) ∧ exec (decode s.cfg s.phase s.rome.rst x) s = .next t)) := by
  have serve : ∀ x, serveCycle x overrun s = .next t →
      (s.phase = .normal ∧ overrun = true ∧ t = s.overrunCycle x)
        ∨ ((s.phase = .normal → overrun = false) ∧ exec (decode s.cfg s.phase s.rome.rst x) s = .next t) := by
    intro x hx
    unfold serveCycle at hx
    split at hx
    · rename_i hc; simp only [Bool.and_eq_true, decide_eq_true_eq] at hc
      exact .inl ⟨hc.1, hc.2, by simpa using hx.symm⟩
    · rename_i hc; refine .inr ⟨fun hn => ?_, hx⟩; simpa [hn] using hc
  unfold busCycle at h
  split at h <;> rename_i hd
  · exact .inl ⟨hd, by simpa using h.symm⟩
  · exact .inr (.inl ⟨hd, by simpa using h.symm⟩)
  · exact .inr (.inr ⟨_, .inl ⟨hd, rfl⟩, serve _ h⟩)
  · exact .inr (.inr ⟨_, .inr ⟨hd, rfl⟩, serve _ h⟩)
  · simp at h

/-- What one step can do, by the event it takes (00_scope.md R8). -/
theorem step_cases {s t : State} (h : step s = .next t) :
    (Event.enabled s.popEvent s.nextEvent = false ∧ t = s.popEvent)
      ∨ (s.nextEvent = .powerOn ∧ t = s.popEvent.powerOnReset)
      ∨ (∃ p overrun, s.nextEvent = .busCycle p overrun ∧ busCycle p overrun s.popEvent = .next t)
      ∨ (s.nextEvent = .dispatch ∧ 0 < s.icq.length ∧ t = s.popEvent.dispatchStep)
      ∨ (∃ k, s.nextEvent = .transfer k ∧ s.dma.active = true ∧ k < s.dma.count.toNat ∧ k ∉ s.dma.done
          ∧ t = s.popEvent.transferStep k)
      ∨ (s.nextEvent = .complete ∧ s.dma.active = true ∧ (∀ k, k < s.dma.count.toNat → k ∈ s.dma.done)
          ∧ t = s.popEvent.completeStep)
      ∨ (∃ b, s.nextEvent = .extRaise b ∧ t = s.popEvent.extRaiseStep b)
      ∨ (s.nextEvent = .startBoot ∧ s.phase = .boot ∧ s.rome.rst = .inactive ∧ s.rome.started = false
          ∧ Params.valid s.cfg = true ∧ t = s.popEvent.startBootStep)
      ∨ (s.nextEvent = .releaseReset ∧ s.rome.rst = .resetSequence ∧ t = s.popEvent.releaseResetStep)
      ∨ (s.nextEvent = .handOff ∧ s.phase = .boot ∧ s.rome.rst = .complete ∧ t = s.popEvent.handOffStep) := by
  rw [step_eq] at h
  unfold runEvent at h
  by_cases he : Event.enabled s.popEvent s.nextEvent = true
  case neg => simp only [Bool.not_eq_true] at he; rw [he] at h; exact .inl ⟨he, by simpa using h.symm⟩
  rw [he] at h
  simp only [Bool.not_true, Bool.false_eq_true, if_false] at h
  right
  split at h <;> rename_i hev <;> rw [hev] at he <;>
    simp only [Event.enabled, Bool.and_eq_true, decide_eq_true_eq, Bool.not_eq_true', State.popEvent_icq,
      State.popEvent_dma, State.popEvent_phase, State.popEvent_rome, Dma.allDone_iff] at he
  · exact .inl ⟨hev, by simpa using h.symm⟩
  · exact .inr (.inl ⟨_, _, hev, h⟩)
  · exact .inr (.inr (.inl ⟨hev, he, by simpa using h.symm⟩))
  · exact .inr (.inr (.inr (.inl ⟨_, hev, he.1.1, he.1.2, by simpa using he.2, by simpa using h.symm⟩)))
  · exact .inr (.inr (.inr (.inr (.inl ⟨hev, he.1, he.2, by simpa using h.symm⟩))))
  · exact .inr (.inr (.inr (.inr (.inr (.inl ⟨_, hev, by simpa using h.symm⟩)))))
  · split at h
    · rename_i hv
      exact .inr (.inr (.inr (.inr (.inr (.inr (.inl
        ⟨hev, he.1.1, he.1.2, he.2, by simpa using hv, by simpa using h.symm⟩))))))
    · simp at h
  · exact .inr (.inr (.inr (.inr (.inr (.inr (.inr (.inl ⟨hev, he, by simpa using h.symm⟩)))))))
  · exact .inr (.inr (.inr (.inr (.inr (.inr (.inr (.inr ⟨hev, he.1, he.2, by simpa using h.symm⟩)))))))

/-- The word of a bus cycle that was not lost, as `nextCycleIs` says it. -/
theorem nextCycleIs_of {s : State} {p : BusPins} {overrun : Bool} {x : Txn} (he : s.nextEvent = .busCycle p overrun)
    (ho : s.phase = .normal → overrun = false)
    (hx : (BusPins.direction p = .read ∧ x = mkTxn false p.d p.a)
      ∨ (BusPins.direction p = .write ∧ x = mkTxn true p.d p.a)) : nextCycleIs s x :=
  ⟨p, overrun, he, ho, hx⟩

end Sys2Proof.Machine
end

