-- ==== Sys2Proof/Machine/ArenaMap.lean ====
section
/-! DEFINITION. The documented layout of the arena (20_memory.md R83, conflict C9): names for ranges of offsets, which no
operation of the machine consults, for the regions "impose no hardware enforcement" (R84). -/

namespace Sys2Proof.Machine

/-- The five documented regions (20_memory.md R83). -/
inductive ArenaRegion where
  | reserved
  | systemRam
  | video
  | user
  | ioBuffers
deriving DecidableEq, Repr

/-- One row of the layout: a region's first offset and its size in bytes. -/
structure ArenaRange where
  region : ArenaRegion
  base : Nat
  size : Nat
deriving DecidableEq, Repr

/-- The layout: "logical offsets, defaults only" (R83). -/
def arenaLayout : List ArenaRange :=
  [⟨.reserved, 0x00000, 0x00800⟩, ⟨.systemRam, 0x00800, 0x04000⟩, ⟨.video, 0x04800, 0x0F000⟩,
   ⟨.user, 0x13800, 0x28800⟩, ⟨.ioBuffers, 0x3C000, 0x04000⟩]

/-- Each range begins where the one before it ends. -/
def rangesTile (lo : Nat) : List ArenaRange → Nat
  | [] => lo
  | r :: rest => if r.base = lo then rangesTile (lo + r.size) rest else lo

end Sys2Proof.Machine
end

