-- ==== Sys2Proof/Machine/Notation.lean ====
section
/-! DEFINITION. The textual notation for host bus programs and its pseudo-instructions (30_encoding.md R124 and R125,
decision D33): every line is one bus cycle, given here as its transaction word. -/

namespace Sys2Proof

/-- The line `R <addr>`: a read cycle, with the canonical data bits of R110. -/
def lineRead (a : Byte) : Txn := mkTxn false 0 a

/-- The line `W <addr> <- <byte>`: a write cycle. -/
def lineWrite (a d : Byte) : Txn := mkTxn true d a

/-- The pseudo-instructions (R125). In `set24` the number `base` is the selector of the field's low byte. -/
inductive Pseudo where
  | select (w : WinNo) (i : CurNo)
  | setF (w : WinNo) (k v : Byte)
  | getF (w : WinNo) (k : Byte)
  | set24 (w : WinNo) (base : Byte) (v : Addr)
  | setDma (w : WinNo) (src dst : CurNo) (n : Half)
  | cmd (w : WinNo) (op : Byte)
  | scmd (op : Byte)
  | ack (b : Half)
deriving DecidableEq, Repr

/-- `W CFG_FIELD_SELECT[w] <- k; W CFG_DATA[w] <- v` (R125). -/
def setFieldLines (w : WinNo) (k v : Byte) : List Txn :=
  [lineWrite (windowAddr w 0x2) k, lineWrite (windowAddr w 0x3) v]

/-- "Each expands to plain cycles in the order shown" (R125). `ACK` is given in full: leaving out a byte that is 0 is the
programmer's option. -/
def Pseudo.lines : Pseudo → List Txn
  | .select w i => [lineWrite (windowAddr w 0x0) i]
  | .setF w k v => setFieldLines w k v
  | .getF w k => [lineWrite (windowAddr w 0x2) k, lineRead (windowAddr w 0x3)]
  | .set24 w base v =>
    setFieldLines w base (v.extractLsb' 0 8) ++ setFieldLines w (base + 1) (v.extractLsb' 8 8)
      ++ setFieldLines w (base + 2) (v.extractLsb' 16 8)
  | .setDma w src dst n =>
    setFieldLines w 11 src ++ setFieldLines w 12 dst ++ setFieldLines w 13 (n.extractLsb' 0 8)
      ++ setFieldLines w 14 (n.extractLsb' 8 8)
  | .cmd w op => [lineWrite (windowAddr w 0x4) op]
  | .scmd op => [lineWrite 0xFF op]
  | .ack b => [lineWrite 0xF1 (b.extractLsb' 0 8), lineWrite 0xF2 (b.extractLsb' 8 8)]

end Sys2Proof
end

