-- ==== Sys2Proof/Tests/Slice0.lean ====
section
/-! SUPPORT. The model's own tests. Expected results are those of spec/95_test_vectors.md, cited by the vector's name, or
are worked by hand from the rule that the test names. Words are written out as `W_dddddddd_aaaaaaaa` (30_encoding.md
R110), with the address split into `0_www_oooo` for a window (R112). -/

namespace Sys2Proof.Tests

open Sys2Proof.Machine

set_option Elab.async false

/-! ### A small configuration and small states -/

/-- The configuration of the ROM vectors: three bootloader bytes and a kernel of two (95_test_vectors.md section 2.9). -/
def testParams : Params :=
  { Params.reference with
    bootloaderImage := [0xB0, 0xB1, 0xB2]
    kernelImage := [0x11, 0x22]
    hostMiaBase := 0x8000 }

/-- The same with an empty kernel (RM10). -/
def emptyKernel : Params := { testParams with kernelImage := [] }

/-- A configuration whose kernel-status address lies in the bootloader region (47_rom_emulator.md R321 forbids it). -/
def overlapping : Params := { testParams with kstatusAddr := 0x01 }

/-- A build with the palette banks at 0x10800 (90_conflicts.md C5); its table is the reference one. -/
def movedPalette : Params := { testParams with paletteBase := 0x10800 }

/-- A configuration whose table starts cursor 16 one byte late, an entry that the source fixes (10_state.md R40). -/
def lateTable : Params :=
  { testParams with defaultTable := testParams.defaultTable.set 16 ⟨0x4801, 0x4801, 0x6000, 1, 0x05⟩ }

/-- The state right after `HandOff`. -/
def ready : State :=
  { State.powerOn testParams 0 [] 0 with
    phase := .normal
    rome := ⟨.inactive, true, 2⟩
    out := ⟨false, true, false⟩ }

/-- Window A selects cursor 128, which holds `c`. -/
def on (c : Cursor) : State := (ready.setWindow 0 ⟨128, 0⟩).setCursor 128 c

/-- Window A selects cursor 0 with a selector. -/
def selected (sel : Byte) : State := ready.setWindow 0 ⟨0, sel⟩

/-- ROME in a state, with some kernel bytes streamed. -/
def booting (rst : RomeState) (kptr : Half) : State :=
  { State.powerOn testParams 0 [] 0 with rome := ⟨rst, true, kptr⟩ }

/-- The IRQ controller of `ready` in a state, its line as the invariant asks. -/
def irqIs (cause mask : Half) (enable : Bool) : State :=
  { ready with irq := (⟨cause, mask, enable, false⟩ : Irq).reevaluate }

/-- A copy of four bytes from 0x13800 to 0x13802, in flight, with some offsets transferred (DM13). -/
def copying (done : List Nat) : State :=
  { ready with
    dma := ⟨true, 0x13800, 0x13802, 4, done, [0x01, 0x02, 0x03, 0x04]⟩
    st := { ready.st with dmaActive := true } }

/-- A copy command in the queue, with the addresses that its two cursors hold. -/
def queued (src dst : Addr) (count : Half) : State :=
  { (ready.setCursor 128 ⟨src, 0, 0, 1, 0x01⟩).setCursor 129 ⟨dst, 0, 0, 1, 0x01⟩ with icq := [⟨128, 129, count⟩] }

/-- An event offered to a state. -/
def given (s : State) (e : Event) : State := { s with inbox := [e] }

/-- What `f` reads in the next state of an instruction. -/
def result {α : Type} (i : Instr) (s : State) (f : State → α) : Option α :=
  match exec i s with
  | .next t => some (f t)
  | .fault _ => none
  | .refused _ => none

/-- What `f` reads after one step with an event offered. -/
def stepped {α : Type} (s : State) (e : Event) (f : State → α) : Option α :=
  match step (given s e) with
  | .next t => some (f t)
  | .fault _ => none
  | .refused _ => none

/-! ### Well-formedness: an ill-formed term for each check -/

theorem test_wf_cmdUnknown_refuses_known_opcode : (Instr.cmdUnknown 0 0x03).wf testParams = false := by decide
theorem test_wf_winReserved_refuses_offset_four :
    (Instr.rdWinReserved 0 4).wf testParams = false ∧ (Instr.wrWinReserved 0 4 0).wf testParams = false := by decide
theorem test_wf_scmdUnknown_refuses_known_opcode : (Instr.scmdUnknown 0x05).wf testParams = false := by decide
theorem test_wf_sharedReserved_refuses_recognised_address :
    (Instr.rdSharedReserved 0x70).wf testParams = false ∧ (Instr.wrSharedReserved 0x7F 0).wf testParams = false := by
  decide
theorem test_wf_bootloader_refuses_filler_address : (Instr.romRdBootloader 0x03).wf testParams = false := by decide
theorem test_wf_other_refuses_bootloader_address : (Instr.romRdOther 0x02).wf testParams = false := by decide
theorem test_wf_decodesIn_refuses_other_phase :
    (Instr.rdIdxSelect 0).decodesIn .boot .bootActive = false ∧ Instr.romRdKdata.decodesIn .boot .inactive = false
      ∧ (Instr.romCycleNotServing 0).decodesIn .boot .complete = false := by decide
theorem test_params_overlap_is_not_valid : Params.valid overlapping = false := by decide +kernel
theorem test_params_unfixed_table_is_not_valid : Params.valid lateTable = false := by decide +kernel
theorem test_params_moved_palette_is_valid : Params.valid movedPalette = true := by decide +kernel
theorem test_params_test_configuration_is_valid : Params.valid testParams = true := by decide +kernel
theorem test_decoder_rejects_by_name :
    (decodeNat testParams .normal .inactive 0x20000).toOption = none := by decide

/-! ### Decoding: a word for every constructor -/

theorem test_decode_rdIdxSelect : decode testParams .normal .inactive 0b0_00000000_0_001_0000 = .rdIdxSelect 1 := by
  decide
theorem test_decode_wrIdxSelect : decode testParams .normal .inactive 0b1_11001000_0_011_0000 = .wrIdxSelect 3 0xC8 := by
  decide
theorem test_decode_rdDataPort : decode testParams .normal .inactive 0b0_10101011_0_000_0001 = .rdDataPort 0 := by decide
theorem test_decode_wrDataPort : decode testParams .normal .inactive 0b1_01000010_0_110_0001 = .wrDataPort 6 0x42 := by
  decide
theorem test_decode_rdCfgFieldSelect :
    decode testParams .normal .inactive 0b0_00000000_0_010_0010 = .rdCfgFieldSelect 2 := by decide
theorem test_decode_wrCfgFieldSelect :
    decode testParams .normal .inactive 0b1_11111111_0_011_0010 = .wrCfgFieldSelect 3 0xFF := by decide
theorem test_decode_rdCfgData : decode testParams .normal .inactive 0b0_00000000_0_101_0011 = .rdCfgData 5 := by decide
theorem test_decode_wrCfgData : decode testParams .normal .inactive 0b1_01000000_0_101_0011 = .wrCfgData 5 0x40 := by
  decide
theorem test_decode_rdCommand : decode testParams .normal .inactive 0b0_00000001_0_111_0100 = .rdCommand 7 := by decide
theorem test_decode_cmdNop : decode testParams .normal .inactive 0b1_00000000_0_000_0100 = .cmdNop 0 := by decide
theorem test_decode_cmdResetIndex : decode testParams .normal .inactive 0b1_00000001_0_000_0100 = .cmdResetIndex 0 := by
  decide
theorem test_decode_cmdSetDefaultToAddr :
    decode testParams .normal .inactive 0b1_00000010_0_100_0100 = .cmdSetDefaultToAddr 4 := by decide
theorem test_decode_cmdSetLimitToAddr :
    decode testParams .normal .inactive 0b1_00000011_0_001_0100 = .cmdSetLimitToAddr 1 := by decide
theorem test_decode_cmdUnknown : decode testParams .normal .inactive 0b1_00000101_0_111_0100 = .cmdUnknown 7 0x05 := by
  decide
theorem test_decode_rdWinReserved : decode testParams .normal .inactive 0b0_00000000_0_111_1111 = .rdWinReserved 7 15 := by
  decide
theorem test_decode_wrWinReserved :
    decode testParams .normal .inactive 0b1_00000100_0_111_0101 = .wrWinReserved 7 5 0x04 := by decide
theorem test_decode_rdDeviceStatus : decode testParams .normal .inactive 0b0_00000000_11110000 = .rdDeviceStatus := by
  decide
theorem test_decode_wrDeviceStatus : decode testParams .normal .inactive 0b1_11111111_11110000 = .wrDeviceStatus 0xFF := by
  decide
theorem test_decode_rdIrqCauseLow : decode testParams .normal .inactive 0b0_00000000_11110001 = .rdIrqCauseLow := by decide
theorem test_decode_wrIrqCauseLow : decode testParams .normal .inactive 0b1_00010000_11110001 = .wrIrqCauseLow 0x10 := by
  decide
theorem test_decode_rdIrqCauseHigh : decode testParams .normal .inactive 0b0_00000000_11110010 = .rdIrqCauseHigh := by
  decide
theorem test_decode_wrIrqCauseHigh : decode testParams .normal .inactive 0b1_00000010_11110010 = .wrIrqCauseHigh 0x02 := by
  decide
theorem test_decode_rdIrqMaskLow : decode testParams .normal .inactive 0b0_00000000_11110011 = .rdIrqMaskLow := by decide
theorem test_decode_wrIrqMaskLow : decode testParams .normal .inactive 0b1_11111111_11110011 = .wrIrqMaskLow 0xFF := by
  decide
theorem test_decode_rdIrqMaskHigh : decode testParams .normal .inactive 0b0_00000000_11110100 = .rdIrqMaskHigh := by decide
theorem test_decode_wrIrqMaskHigh : decode testParams .normal .inactive 0b1_11111100_11110100 = .wrIrqMaskHigh 0xFC := by
  decide
theorem test_decode_rdIrqEnable : decode testParams .normal .inactive 0b0_00000000_11110101 = .rdIrqEnable := by decide
theorem test_decode_wrIrqEnable : decode testParams .normal .inactive 0b1_10000000_11110101 = .wrIrqEnable 0x80 := by decide
theorem test_decode_rdSharedCommand : decode testParams .normal .inactive 0b0_00000101_11111111 = .rdSharedCommand := by
  decide
theorem test_decode_scmdNop : decode testParams .normal .inactive 0b1_00000000_11111111 = .scmdNop := by decide
theorem test_decode_scmdResetAllIdx : decode testParams .normal .inactive 0b1_00000001_11111111 = .scmdResetAllIdx := by
  decide
theorem test_decode_scmdFactoryResetAllIdx :
    decode testParams .normal .inactive 0b1_00000010_11111111 = .scmdFactoryResetAllIdx := by decide
theorem test_decode_scmdClearIrq : decode testParams .normal .inactive 0b1_00000011_11111111 = .scmdClearIrq := by decide
theorem test_decode_scmdCopyBlock : decode testParams .normal .inactive 0b1_00000100_11111111 = .scmdCopyBlock := by decide
theorem test_decode_scmdSystemReset : decode testParams .normal .inactive 0b1_00000101_11111111 = .scmdSystemReset := by
  decide
theorem test_decode_scmdUnknown : decode testParams .normal .inactive 0b1_00000110_11111111 = .scmdUnknown 0x06 := by decide
theorem test_decode_rdSharedReserved :
    decode testParams .normal .inactive 0b0_00000000_11110110 = .rdSharedReserved 0x76 := by decide
theorem test_decode_wrSharedReserved :
    decode testParams .normal .inactive 0b1_00000101_11111110 = .wrSharedReserved 0x7E 0x05 := by decide
theorem test_decode_romRdVectorLo : decode testParams .boot .bootActive 0b0_00000000_11111100 = .romRdVectorLo := by decide
theorem test_decode_romRdVectorHi : decode testParams .boot .bootActive 0b0_00000000_11111101 = .romRdVectorHi := by decide
theorem test_decode_romRdKstatus : decode testParams .boot .kernelLoading 0b0_00000000_11100000 = .romRdKstatus := by decide
theorem test_decode_romRdKdata : decode testParams .boot .kernelLoading 0b0_00000000_11100001 = .romRdKdata := by decide
theorem test_decode_romRdBootloader :
    decode testParams .boot .bootActive 0b0_00000000_00000010 = .romRdBootloader 0x02 := by decide
theorem test_decode_romRdOther : decode testParams .boot .complete 0b0_00000000_00000011 = .romRdOther 0x03 := by decide
theorem test_decode_romWr : decode testParams .boot .bootActive 0b1_00000101_11111111 = .romWr 0xFF 0x05 := by decide
theorem test_decode_romCycleNotServing :
    decode testParams .boot .resetSequence 0b0_00000000_11100000 = .romCycleNotServing 0x000E0 := by decide
theorem test_decodeTableWord_takes_boot_row : decodeTableWord 24 0x000E1 = some .romRdKdata := by decide
theorem test_encode_writes_all_fields : encode testParams (.wrDataPort 6 0x42) = 0b1_01000010_0_110_0001 := by decide

/-! ### Instructions -/

theorem test_wn1_idx_select :
    result (.wrIdxSelect 3 0xC8) ready (fun t => ((t.window 3).idx, t.window 2)) = some (0xC8, ⟨0, 0⟩) := by decide +kernel
theorem test_rd_idx_select : result (.rdIdxSelect 0) (on default) (·.dataBus) = some (some 128) := by decide +kernel
theorem test_wn2_full_selector_byte :
    result (.wrCfgFieldSelect 3 0xFF) ready (fun t => ((t.window 3).sel, (t.window 3).idx)) = some (0xFF, 0) := by
  decide +kernel
theorem test_rd_cfg_field_select : result (.rdCfgFieldSelect 0) (selected 0x0D) (·.dataBus) = some (some 0x0D) := by
  decide +kernel
theorem test_wn3_reserved_offset_reads_zero : result (.rdWinReserved 7 15) ready (·.dataBus) = some (some 0x00) := by
  decide +kernel
theorem test_wn4_command_reads_zero : result (.rdCommand 0) ready (·.dataBus) = some (some 0x00) := by decide +kernel
theorem test_dp1_write_steps :
    result (.wrDataPort 0 0xAB) (on ⟨0x13800, 0, 0, 1, 0x01⟩)
      (fun t => (t.arenaByte 0x13800, (t.cursor 128).current, t.st.memerr)) = some (0xAB, 0x13801, false) := by
  decide +kernel
theorem test_dp2_forward_wrap :
    result (.rdDataPort 0) ((on ⟨0x1380F, 0x13800, 0x13810, 1, 0x05⟩).arenaWrite 0x1380F 0x99)
      (fun t => (t.dataBus, (t.cursor 128).current)) = some (some 0x99, 0x13800) := by decide +kernel
theorem test_dp9_backward_underflow_wraps :
    result (.rdDataPort 0) (on ⟨0, 0x13800, 0, 1, 0x07⟩) (fun t => (t.cursor 128).current) = some 0x13800 := by
  decide +kernel
theorem test_dp12_backward_underflow_truncates :
    Cursor.stepped ⟨0x000001, 0, 0, 2, 0x03⟩ = ⟨0xFFFFFF, 0, 0, 2, 0x03⟩ := by decide +kernel
theorem test_dp10_backward_limit_is_no_wrap :
    Cursor.stepped ⟨0x13805, 0x13900, 0x13804, 1, 0x07⟩ = ⟨0x13804, 0x13900, 0x13804, 1, 0x07⟩ := by decide +kernel
theorem test_dp15_invalid_write_is_skipped :
    result (.wrDataPort 0 0x11) (on ⟨0x40000, 0, 0, 1, 0x01⟩)
      (fun t => (t.arena, (t.cursor 128).current, t.st.memerr, t.irq.cause)) = some ([], 0x40000, true, 0x0001) := by
  decide +kernel
theorem test_dp16_invalid_read_is_zero :
    result (.rdDataPort 0) (on ⟨0xFFFFFF, 0, 0, 1, 0x01⟩) (fun t => (t.dataBus, (t.cursor 128).current, t.irq.line))
      = some (some 0x00, 0xFFFFFF, true) := by decide +kernel
theorem test_cf1_middle_byte :
    result (.rdCfgData 0) ((selected 1).setCursor 0 ⟨0x123456, 0, 0, 0, 0⟩) (·.dataBus) = some (some 0x34) := by
  decide +kernel
theorem test_cf2_high_byte :
    result (.wrCfgData 0 0x08) ((selected 2).setCursor 0 ⟨0x013800, 0x013800, 0x03C000, 1, 0x01⟩) (·.cursor 0)
      = some ⟨0x083800, 0x013800, 0x03C000, 1, 0x01⟩ := by decide +kernel
theorem test_cf5_count_high_byte :
    result (.wrCfgData 0 0x12) { selected 14 with dmacfg := ⟨1, 2, 0x0034⟩ } (·.dmacfg) = some ⟨1, 2, 0x1234⟩ := by
  decide +kernel
theorem test_cm1_reset_index :
    result (.cmdResetIndex 0) (on ⟨0x13803, 0x13800, 0, 1, 0⟩) (·.cursor 128) = some ⟨0x13800, 0x13800, 0, 1, 0⟩ := by
  decide +kernel
theorem test_cm2_set_default :
    result (.cmdSetDefaultToAddr 0) (on ⟨0x13A00, 0, 0, 1, 0⟩) (·.cursor 128) = some ⟨0x13A00, 0x13A00, 0, 1, 0⟩ := by
  decide +kernel
theorem test_cm3_set_limit :
    result (.cmdSetLimitToAddr 0) (on ⟨0x13810, 0, 0, 1, 0⟩) (·.cursor 128) = some ⟨0x13810, 0, 0x13810, 1, 0⟩ := by
  decide +kernel
theorem test_cm5_reset_all :
    result .scmdResetAllIdx (ready.setCursor 130 ⟨0x20000, 0x13800, 0, 1, 0⟩)
      (fun t => ((t.cursor 130).current, (t.cursor 0).current)) = some (0x13800, 0x00800) := by decide +kernel
theorem test_cm6_factory_reset :
    result .scmdFactoryResetAllIdx
      { irqIs 0x0301 0x0000 false with dmacfg := ⟨1, 2, 3⟩, st := ⟨true, false, false⟩, cur := Vector.replicate 256 default }
      (fun t => (t.irq, t.cursor 56, t.st.memerr, t.dmacfg))
      = some (⟨0x0000, 0xFFFF, true, false⟩, ⟨0x18840, 0x18840, 0x18C40, 4, 0x05⟩, true, ⟨1, 2, 3⟩) := by decide +kernel
/-- Rows 32 to 47 follow `PALETTE_BASE` (C5), and row 48 keeps its place. -/
theorem test_c5_palette_base_moves_rows_32_to_47 :
    result .scmdFactoryResetAllIdx { ready with cfg := movedPalette } (fun t => (t.cursor 32, t.cursor 47, t.cursor 48))
      = some (⟨0x10800, 0x10800, 0x10810, 1, 0x05⟩, ⟨0x108F0, 0x108F0, 0x10900, 1, 0x05⟩,
          ⟨0x16900, 0x16900, 0x16CE8, 1, 0x05⟩) := by decide +kernel
theorem test_cm7_clear_irq :
    result .scmdClearIrq (irqIs 0x0005 0xFFFF true) (·.irq) = some ⟨0x0000, 0xFFFF, true, false⟩ := by decide +kernel
theorem test_cm8_copy_block_queues :
    result .scmdCopyBlock { ready with dmacfg := ⟨128, 129, 10⟩ } (·.icq) = some [⟨128, 129, 10⟩] := by decide +kernel
theorem test_cm9_full_queue_drops :
    result .scmdCopyBlock { ready with icq := List.replicate 8 ⟨0, 0, 0⟩ } (fun t => (t.icq.length, t.st.memerr))
      = some (8, false) := by decide +kernel
theorem test_cm14_system_reset :
    result .scmdSystemReset (on default) (fun t => (t.phase, t.rome, t.window 0)) = some (.boot, ⟨.inactive, false, 0⟩, ⟨0, 0⟩)
    := by decide +kernel
theorem test_iq2_cause_low_clears :
    result (.wrIrqCauseLow 0x10) (irqIs 0x0010 0xFFFF true) (·.irq) = some ⟨0x0000, 0xFFFF, true, false⟩ := by decide +kernel
theorem test_iq7_cause_high_clears_one_bit :
    result (.wrIrqCauseHigh 0x02) (irqIs 0x0305 0xFFFF true) (·.irq) = some ⟨0x0105, 0xFFFF, true, true⟩ := by decide +kernel
theorem test_iq7_cause_reads :
    result .rdIrqCauseHigh (irqIs 0x0105 0xFFFF true) (·.dataBus) = some (some 0x01)
      ∧ result .rdIrqCauseLow (irqIs 0x0105 0xFFFF true) (·.dataBus) = some (some 0x05) := by decide +kernel
theorem test_iq4_mask_low_raises_line :
    result (.wrIrqMaskLow 0xFF) (irqIs 0x0004 0xFFFB true) (·.irq) = some ⟨0x0004, 0xFFFF, true, true⟩ := by decide +kernel
theorem test_iq10_mask_high_stores_reserved_bits :
    result (.wrIrqMaskHigh 0xFC) (irqIs 0x0000 0xFFFF true) (·.irq.mask) = some 0xFCFF := by decide +kernel
theorem test_iq10_mask_reads :
    result .rdIrqMaskHigh (irqIs 0 0xFCFE true) (·.dataBus) = some (some 0xFC)
      ∧ result .rdIrqMaskLow (irqIs 0 0xFCFE true) (·.dataBus) = some (some 0xFE) := by decide +kernel
theorem test_iq5_enable_normalizes :
    result (.wrIrqEnable 0x80) (irqIs 0 0xFFFF false) (·.irq.enable) = some true := by decide +kernel
theorem test_iq5_enable_reads_one : result .rdIrqEnable (irqIs 0 0xFFFF true) (·.dataBus) = some (some 0x01) := by
  decide +kernel
theorem test_iq11_status :
    result .rdDeviceStatus { irqIs 0x0001 0xFFFF true with st := ⟨true, false, true⟩ } (·.dataBus) = some (some 0x17) := by
  decide +kernel
theorem test_iq13_status_write_keeps_memerr :
    result (.wrDeviceStatus 0xFF) { ready with st := ⟨true, false, false⟩ } (·.st.memerr) = some true := by decide +kernel
theorem test_iq14_reserved_shared_reads_zero : result (.rdSharedReserved 0x76) ready (·.dataBus) = some (some 0x00) := by
  decide +kernel
theorem test_cm13_shared_command_reads_zero : result .rdSharedCommand ready (·.dataBus) = some (some 0x00) := by
  decide +kernel
theorem test_rm4_vector :
    result .romRdVectorLo (booting .bootActive 0) (·.dataBus) = some (some 0x00)
      ∧ result .romRdVectorHi (booting .bootActive 0) (·.dataBus) = some (some 0xFF) := by decide +kernel
theorem test_rm5_bootloader :
    result (.romRdBootloader 0x02) (booting .bootActive 0) (·.dataBus) = some (some 0xB2)
      ∧ result (.romRdOther 0x03) (booting .bootActive 0) (·.dataBus) = some (some 0xEA) := by decide +kernel
theorem test_rm6_first_status_read :
    result .romRdKstatus (booting .bootActive 0) (fun t => (t.dataBus, t.rome.rst)) = some (some 0x01, .kernelLoading) := by
  decide +kernel
theorem test_rm10_empty_kernel :
    result .romRdKstatus { booting .bootActive 0 with cfg := emptyKernel } (fun t => (t.dataBus, t.rome.rst))
      = some (some 0x00, .complete) := by decide +kernel
theorem test_rm7_last_kernel_byte :
    result .romRdKdata (booting .kernelLoading 1) (fun t => (t.dataBus, t.rome)) = some (some 0x22, ⟨.complete, true, 2⟩) := by
  decide +kernel
theorem test_rm8_past_the_end_changes_nothing :
    result .romRdKdata (booting .complete 2) (·.rome) = some ⟨.complete, true, 2⟩ := by decide +kernel
theorem test_rm11_write_is_ignored : result (.romWr 0xE1 0x00) (booting .kernelLoading 1) (·.rome.kptr) = some 1 := by
  decide +kernel
theorem test_rm2_not_serving_changes_nothing :
    result (.romCycleNotServing 0x000FC) (booting .resetSequence 0) (·.rome) = some ⟨.resetSequence, true, 0⟩ := by
  decide +kernel

/-! ### Cycles and the steps of the other agents -/

theorem test_bf1_step_of_a_write_cycle :
    stepped (on ⟨0x13800, 0, 0, 1, 0x01⟩) (writeAt 0x01 0x42) (fun t => (t.arenaByte 0x13800, (t.cursor 128).current))
      = some (0x42, 0x13801) := by decide +kernel
theorem test_bf3_overrun_is_lost :
    stepped (on ⟨0x13800, 0, 0, 1, 0x01⟩) (.busCycle (Txn.pins 0x15501) true)
      (fun t => (t.arena, (t.cursor 128).current, t.st.memerr, t.irq.cause)) = some ([], 0x13800, true, 0x0001) := by
  decide +kernel
theorem test_bf6_conflict_faults : step (given ready (.busCycle ⟨false, false, false, 0, 0⟩ false))
    = .fault .busDirectionConflict := rfl
theorem test_rm1_start_boot :
    stepped (State.powerOn testParams 0 [] 0) .startBoot (fun t => (t.rome.rst, t.out.hostReset))
      = some (.resetSequence, true) := by decide +kernel
theorem test_start_boot_refuses_overlapping_regions :
    step (given (State.powerOn overlapping 0 [] 0) .startBoot) = .refused .invalidConfiguration := rfl
theorem test_rm3_release_reset :
    stepped (booting .resetSequence 0) .releaseReset (fun t => (t.rome.rst, t.out.bank, t.out.hostReset))
      = some (.bootActive, true, false) := by decide +kernel
/-- The ROM window stands at `$FF00` only while `out.bank` is 1 (47_rom_emulator.md R321): not before `ReleaseReset`. -/
theorem test_r321_window_follows_bank :
    (booting .resetSequence 0).hostAddress 0xFC = none
      ∧ stepped (booting .resetSequence 0) .releaseReset (·.hostAddress 0xFC) = some (some 0xFFFC)
      ∧ ready.hostAddress 0x31 = some 0x8031 := by decide +kernel
theorem test_rm13_hand_off :
    stepped (booting .complete 2) .handOff (fun t => (t.phase, t.rome.rst, t.out.clkFast, t.out.bank))
      = some (.normal, .inactive, true, false) := by decide +kernel
theorem test_dm1_dispatch_starts :
    stepped (queued 0x13A00 0x13B00 10) .dispatch (fun t => (t.st.dmaActive, t.dma.src, t.dma.dst, t.dma.count))
      = some (true, 0x13A00, 0x13B00, 10) := by decide +kernel
theorem test_dm9_start_check_comes_first :
    stepped (queued 0x40000 0x13B00 0) .dispatch (fun t => (t.irq.cause, t.dma.active)) = some (0x0001, false) := by
  decide +kernel
theorem test_dm8_end_past_the_arena :
    stepped (queued 0x13A00 0x3FFF0 0x11) .dispatch (fun t => (t.irq.cause, t.dma.active)) = some (0x0008, false) := by
  decide +kernel
theorem test_dm13_overlapping_transfer_uses_snap :
    stepped (copying [0]) (.transfer 2) (fun t => (t.arenaByte 0x13804, t.dma.done)) = some (0x03, [0, 2]) := by
  decide +kernel
theorem test_dm17_complete :
    stepped (copying [0, 1, 2, 3]) .complete (fun t => (t.st.dmaActive, t.dma.active, t.irq.cause))
      = some (false, false, 0x0004) := by decide +kernel
theorem test_iq1_external_raise :
    stepped (irqIs 0 0xFFFF true) (.extRaise 0x001) (·.irq) = some ⟨0x0010, 0xFFFF, true, true⟩ := by decide +kernel

/-- D is an output in read cycles only (40_bus_frontend.md R145): not in the agent step, nor in the other device's cycle,
that follows one. -/
theorem test_data_pins_are_driven_in_read_cycles_only :
    (stepped ready (readAt 0x05) (·.pins.data), stepped (ready.drive 0x42) (.extRaise 0x001) (·.pins.data),
        stepped (ready.drive 0x42) (.busCycle ⟨true, false, true, 0, 0⟩ false) (·.pins.data))
      = (some (some 0x00), some none, some none) := by decide +kernel

/-! ### Notation and layout -/

/-- CF9's `SET24 A, 0, 0xABCDEF`, and the words of program P3 that write the DMA source (30_encoding.md R125). -/
theorem test_cf9_set24_lines : Pseudo.lines (.set24 0 0 0xABCDEF)
    = [0x10002, 0x1EF03, 0x10102, 0x1CD03, 0x10202, 0x1AB03] := by decide
theorem test_p3_set_dma_lines : Pseudo.lines (.setDma 0 0x80 0x81 0x000A)
    = [0x10B02, 0x18003, 0x10C02, 0x18103, 0x10D02, 0x10A03, 0x10E02, 0x10003] := by decide
theorem test_arena_layout_tiles_the_arena : rangesTile 0 arenaLayout = Config.arenaSize := by decide
theorem test_collaborator_causes_are_none_of_the_cores :
    (causeUsbKeyboard ||| causeUsbDeviceChange ||| causeVideoFrameComplete ||| causeVideoCollision) &&& 0x000F = 0
      ∧ causeMemoryError ||| causeIndexOverflow ||| causeDmaComplete ||| causeDmaError = 0x000F := by decide

/-! ### Witnesses: a state and operands that meet the hypotheses of each obligation, clause by clause -/

theorem witness_DecodeOfEncodeIsInstr :
    Params.valid testParams = true
      ∧ ((Instr.cmdUnknown 7 0x04).wf testParams = true ∧ (Instr.cmdUnknown 7 0x04).decodesIn .normal .inactive = true)
      ∧ ((Instr.romRdBootloader 2).wf testParams = true ∧ (Instr.romRdBootloader 2).decodesIn .boot .complete = true) := by
  decide +kernel

theorem witness_EveryWordSelectsItsRow : Params.valid testParams = true ∧ tableAddressesApply testParams :=
  ⟨test_params_test_configuration_is_valid, rfl, rfl, rfl, rfl⟩

theorem witness_AddressDecodeFormulas :
    Txn.addr 0x0007F &&& 0x80 = 0 ∧ Txn.addr 0x00080 &&& 0x80 ≠ 0 := by decide

/-- Words that meet each encoding and its constraint, at the constraint's boundary. -/
theorem witness_WindowIndexAndReservedReads :
    (0x00010 : Txn) &&& 0x1008F = 0x00000
      ∧ ((0x00075 : Txn) &&& 0x10080 = 0x00000 ∧ 5 ≤ (Txn.offset 0x00075).toNat) := by decide

theorem witness_IdxSelectWriteSetsOneLatch : (0x18000 : Txn) &&& 0x1008F = 0x10000 := by decide

theorem witness_WritesWithoutEffect :
    ((0x10475 : Txn) &&& 0x10080 = 0x10000 ∧ 5 ≤ (Txn.offset 0x10475).toNat)
      ∧ (0x10074 : Txn) &&& 0x1FF8F = 0x10004
      ∧ ((0x10414 : Txn) &&& 0x1008F = 0x10004 ∧ 4 ≤ (Txn.data 0x10414).toNat)
      ∧ (0x100FF : Txn) &&& 0x1FFFF = 0x100FF
      ∧ ((0x106FF : Txn) &&& 0x100FF = 0x100FF ∧ 6 ≤ (Txn.data 0x106FF).toNat)
      ∧ ((0x105FE : Txn) &&& 0x10080 = 0x10080 ∧ Txn.addr 0x105FE ∉ recognisedAddrs)
      ∧ (RomeState.complete.serving = true ∧ (0x105FF : Txn) &&& 0x10000 = 0x10000) := by decide

theorem witness_ResetIndexAndSetDefault :
    (0x10104 : Txn) &&& 0x1FF8F = 0x10104 ∧ (0x10274 : Txn) &&& 0x1FF8F = 0x10204 := by decide

theorem witness_ResetAllIndexesToDefaults : (0x101FF : Txn) &&& 0x1FFFF = 0x101FF := by decide

theorem witness_CauseAndSharedReservedReads :
    (0x0FFF1 : Txn) &&& 0x100FF = 0x000F1 ∧ (0x000F2 : Txn) &&& 0x100FF = 0x000F2
      ∧ ((0x000F6 : Txn) &&& 0x10080 = 0x00080 ∧ Txn.addr 0x000F6 ∉ recognisedAddrs) := by decide

theorem witness_CauseWritesClearOnes :
    (0x110F1 : Txn) &&& 0x100FF = 0x100F1 ∧ (0x102F2 : Txn) &&& 0x100FF = 0x100F2 := by decide

theorem witness_MaskAndEnableWrites :
    (0x1FFF3 : Txn) &&& 0x100FF = 0x100F3 ∧ (0x100F4 : Txn) &&& 0x100FF = 0x100F4
      ∧ (0x180F5 : Txn) &&& 0x100FF = 0x100F5 := by decide

/-- The encodings of the two `DATA_PORT` instructions and of `COPY_BLOCK`. -/
theorem witness_DataPort_and_CopyBlock_encodings :
    (0x0AB01 : Txn) &&& 0x1008F = 0x00001 ∧ (0x1FF71 : Txn) &&& 0x1008F = 0x10001
      ∧ (0x104FF : Txn) &&& 0x1FFFF = 0x104FF := by decide

/-- A read at 0xFF and a write at 0x00. -/
theorem witness_StepRunsDecodedCycle :
    nextCycleIs (given ready (readAt 0xFF)) 0x000FF ∧ nextCycleIs (given ready (writeAt 0x00 0x80)) 0x18000 :=
  ⟨⟨_, false, rfl, fun _ => rfl, .inl ⟨by decide, by decide⟩⟩, ⟨_, false, rfl, fun _ => rfl, .inr ⟨by decide, by decide⟩⟩⟩

theorem witness_FetchWordRunsTableInstr :
    State.reset.cfg = Params.reference ∧ decodeTableWord 24 0x10104 = some (.cmdResetIndex 0) := ⟨rfl, by decide⟩

/-- A lost read and a lost write. -/
theorem witness_LostCycleOnlySignals :
    (given ready (.busCycle (Txn.pins 0x00001) true)).nextEvent = .busCycle (Txn.pins 0x00001) true
      ∧ (given ready (.busCycle (Txn.pins 0x00001) true)).phase = .normal
      ∧ BusPins.direction (Txn.pins 0x00001) = .read ∧ BusPins.direction (Txn.pins 0x15501) = .write :=
  ⟨rfl, rfl, by decide, by decide⟩

theorem witness_CyclesWithoutOneDirection :
    (given ready (.busCycle ⟨false, true, true, 0, 0⟩ true)).nextEvent = .busCycle ⟨false, true, true, 0, 0⟩ true
      ∧ (given ready (.busCycle ⟨false, false, false, 0, 0⟩ true)).nextEvent
          = .busCycle ⟨false, false, false, 0, 0⟩ true
      ∧ (given ready (.busCycle ⟨true, false, true, 0, 0⟩ true)).nextEvent = .busCycle ⟨true, false, true, 0, 0⟩ true :=
  ⟨rfl, rfl, rfl⟩

/-- A write to a window register is not a reset. -/
theorem given_write_is_no_reset (s : State) (a d : Byte)
    (h : decode s.cfg s.phase s.rome.rst (mkTxn true d a) ≠ .scmdSystemReset) :
    ¬ nextIsReset (given s (writeAt a d)) := by
  rintro (he | ⟨t, ⟨p, o, he, _, ht⟩, hd⟩)
  · cases he
  · obtain ⟨rfl, rfl⟩ : Txn.pins (mkTxn true d a) = p ∧ false = o := by injection he with h1 h2; exact ⟨h1, h2⟩
    rcases ht with ⟨hr, _⟩ | ⟨_, rfl⟩
    · simp [BusPins.direction_pins] at hr
    · simp [Txn.pins] at hd; exact h hd

/-- An agent's event, or a raise, is not a reset. -/
theorem given_no_cycle_is_no_reset (s : State) (e : Event) (h1 : e ≠ .powerOn) (h2 : ∀ p o, e ≠ .busCycle p o) :
    ¬ nextIsReset (given s e) := by
  rintro (he | ⟨t, ⟨p, o, he, _⟩, _⟩)
  · exact h1 he
  · exact h2 p o he

theorem witness_OnlyOwnRegistersWriteLatches :
    step (given ready (writeAt 0x30 0xC8)) = .next (ready.setWindow 3 ⟨0xC8, 0⟩).release
      ∧ ¬ nextIsReset (given ready (writeAt 0x30 0xC8))
      ∧ (ready.setWindow 3 ⟨0xC8, 0⟩).release.window 3 ≠ (given ready (writeAt 0x30 0xC8)).window 3 :=
  ⟨rfl, given_write_is_no_reset ready 0x30 0xC8 (by decide), by decide +kernel⟩

/-- The last valid address and the first invalid one, for the read and the write clauses. -/
theorem witness_DataPortReadServesOrSignals :
    ((on ⟨0x3FFFF, 0, 0, 1, 1⟩).cursor ((on ⟨0x3FFFF, 0, 0, 1, 1⟩).window 0).idx).current.toNat < 0x40000
      ∧ 0x40000 ≤ ((on ⟨0x40000, 0, 0, 1, 1⟩).cursor ((on ⟨0x40000, 0, 0, 1, 1⟩).window 0).idx).current.toNat := by
  decide +kernel

theorem witness_DataPortWriteStoresOrSignals :
    ((on ⟨0x3FFFF, 0, 0, 1, 1⟩).cursor ((on ⟨0x3FFFF, 0, 0, 1, 1⟩).window 0).idx).current.toNat < 0x40000
      ∧ (on ⟨0x3FFFF, 0, 0, 1, 1⟩).sourcePending 0x3FFFF = false
      ∧ 0x40000 ≤ ((on ⟨0x40000, 0, 0, 1, 1⟩).cursor ((on ⟨0x40000, 0, 0, 1, 1⟩).window 0).idx).current.toNat := by
  decide +kernel

/-- Window A's cursor stands at the last source byte of the running copy, which is yet to be transferred. -/
def racing : State := ((copying [0]).setWindow 0 ⟨128, 0⟩).setCursor 128 ⟨0x13803, 0, 0, 1, 1⟩

theorem witness_SourceWriteRacesWithCopy :
    racing.dma.active = true ∧ 3 < racing.dma.count.toNat ∧ 3 ∉ racing.dma.done
      ∧ (racing.cursor (racing.window 0).idx).current.toNat = racing.dma.src.toNat + 3
      ∧ racing.dma.src.toNat + 3 < 0x40000 := by decide +kernel

theorem witness_ForwardStepAddsOrWraps :
    (⟨0x3FFFF, 0, 0x40000, 1, 0x05⟩ : Cursor).flags &&& 0x02 = 0
      ∧ (⟨0x3FFFF, 0, 0x40000, 1, 0x05⟩ : Cursor).current.toNat < 0x40000 := by decide

theorem witness_BackwardStepSubtractsOrWraps : (⟨0, 0x13800, 0, 1, 0x07⟩ : Cursor).flags &&& 0x02 ≠ 0 := by decide

/-- Windows A and B select the same cursor, with `AUTO_STEP` clear. -/
def sharedCursor : State := (on ⟨0x3FFFF, 0, 0, 1, 0x00⟩).setWindow 1 ⟨128, 0⟩

theorem witness_WriteThenReadReturnsByte :
    (sharedCursor.window 1).idx = (sharedCursor.window 0).idx
      ∧ (sharedCursor.cursor (sharedCursor.window 0).idx).flags &&& 0x01 = 0
      ∧ (sharedCursor.cursor (sharedCursor.window 0).idx).current.toNat < 0x40000 := by decide +kernel

/-- Cursors whose next step leaves the arena: forward from the last byte (DP6), below zero, and by a wrap to an invalid
default. -/
def leaving : List Cursor :=
  [⟨0x3FFFF, 0, 0, 1, 0x01⟩, ⟨0, 0x13800, 0, 1, 0x03⟩, ⟨0x13805, 0x40000, 0x13806, 1, 0x05⟩]

/-- Cursor 128 past the arena, by a forward step. -/
def outside : State := on ⟨0x40000, 0x13800, 0, 1, 0x01⟩

/-- The state after `RESET_INDEX` on it. -/
def backInside : State :=
  (outside.setCursor (outside.activeIndex 0)
    { outside.activeCursor 0 with current := (outside.activeCursor 0).dflt }).release

theorem witness_StepPastArenaFoundLater :
    (∀ c ∈ leaving, ((on c).cursor ((on c).window 0).idx).flags &&& 0x01 ≠ 0
        ∧ ((on c).cursor ((on c).window 0).idx).current.toNat < 0x40000
        ∧ 0x40000 ≤ (Cursor.stepped ((on c).cursor ((on c).window 0).idx)).current.toNat)
      ∧ 0x40000 ≤ (outside.cursor (outside.window 0).idx).current.toNat
      ∧ (step (given outside (writeAt 0x04 0x01)) = .next backInside ∧ ¬ nextIsReset (given outside (writeAt 0x04 0x01))
        ∧ 0x40000 ≤ ((given outside (writeAt 0x04 0x01)).cursor 128).current.toNat
        ∧ (backInside.cursor 128).current ≠ ((given outside (writeAt 0x04 0x01)).cursor 128).current) :=
  ⟨by decide +kernel, by decide +kernel, rfl, given_write_is_no_reset _ 0x04 0x01 (by decide), by decide +kernel,
    by decide +kernel⟩

/-- Both ends of each range of selectors. -/
theorem witness_CfgDataReadsSelectedByte :
    ((selected 2).window 0).sel.toNat < 3
      ∧ (3 ≤ ((selected 3).window 0).sel.toNat ∧ ((selected 5).window 0).sel.toNat < 6)
      ∧ (6 ≤ ((selected 6).window 0).sel.toNat ∧ ((selected 8).window 0).sel.toNat < 9)
      ∧ ((selected 9).window 0).sel = 9 ∧ ((selected 10).window 0).sel = 10 ∧ ((selected 11).window 0).sel = 11
      ∧ ((selected 12).window 0).sel = 12
      ∧ (13 ≤ ((selected 13).window 0).sel.toNat ∧ ((selected 14).window 0).sel.toNat < 15) := by decide +kernel

theorem witness_CfgDataWriteReplacesOneByte :
    ((selected 14).window 0).sel.toNat ≤ 14 ∧ ((selected 10).window 0).sel.toNat ≤ 10
      ∧ 11 ≤ ((selected 11).window 0).sel.toNat := by decide +kernel

theorem witness_SelectorOutOfRangeHasNoEffect :
    15 ≤ ((selected 15).window 0).sel.toNat ∧ 15 ≤ ((selected 255).window 0).sel.toNat := by decide +kernel

/-- The twelve cycles of the law, on the limit field of window H. -/
def roundTrip : State :=
  { ready with
    inbox :=
      [writeAt (windowAddr 7 2) 6, writeAt (windowAddr 7 3) 0xEF, writeAt (windowAddr 7 2) (6 + 1),
        writeAt (windowAddr 7 3) 0xCD, writeAt (windowAddr 7 2) (6 + 2), writeAt (windowAddr 7 3) 0xAB,
        writeAt (windowAddr 7 2) 6, readAt (windowAddr 7 3), writeAt (windowAddr 7 2) (6 + 1),
        readAt (windowAddr 7 3), writeAt (windowAddr 7 2) (6 + 2), readAt (windowAddr 7 3)] }

theorem witness_CfgAddressBytesRoundTrip :
    roundTrip.phase = .normal ∧ ((6 : Byte) = 0 ∨ (6 : Byte) = 3 ∨ (6 : Byte) = 6)
      ∧ roundTrip.inbox = writeAt (windowAddr 7 2) 6 :: writeAt (windowAddr 7 3) 0xEF
        :: writeAt (windowAddr 7 2) (6 + 1) :: writeAt (windowAddr 7 3) 0xCD
        :: writeAt (windowAddr 7 2) (6 + 2) :: writeAt (windowAddr 7 3) 0xAB
        :: writeAt (windowAddr 7 2) 6 :: readAt (windowAddr 7 3)
        :: writeAt (windowAddr 7 2) (6 + 1) :: readAt (windowAddr 7 3)
        :: writeAt (windowAddr 7 2) (6 + 2) :: readAt (windowAddr 7 3) :: [] := ⟨rfl, by decide, rfl⟩

theorem witness_SetLimitMakesNextStepWrap :
    ((on ⟨0x13800, 0, 0, 1, 0x05⟩).cursor ((on ⟨0x13800, 0, 0, 1, 0x05⟩).window 0).idx).flags &&& 0x06 = 0x04 := by
  decide +kernel

/-- Seven records leave room, eight do not. -/
theorem witness_CopyBlockQueuesOrDrops :
    ({ ready with icq := List.replicate 7 ⟨0, 0, 0⟩ } : State).icq.length < ready.cfg.icqCapacity
      ∧ ready.cfg.icqCapacity ≤ ({ ready with icq := List.replicate 8 ⟨0, 0, 0⟩ } : State).icq.length := by decide +kernel

theorem witness_ResetsLeaveResetState : (given ready .powerOn).nextEvent = .powerOn := rfl

/-- The ends of the ranges: rows 128 and 255, the palette banks 0 and 15, and the rows beside them. -/
theorem witness_ReferenceTableAndConfiguration :
    defaultCursor 0x16800 128 = defaultCursor 0x16800 255
      ∧ Params.cursorRecord movedPalette (32 + 0) default = ⟨0x10800, 0x10800, 0x10810, 1, 0x05⟩
      ∧ Params.cursorRecord movedPalette (32 + 15) default = ⟨0x108F0, 0x108F0, 0x10900, 1, 0x05⟩
      ∧ Params.cursorRecord movedPalette 31 default = default
      ∧ Params.cursorRecord movedPalette 48 default = default := by decide

theorem witness_DeviceStatusReadsFiveBits : statusLayoutDistinct ready.cfg.statusLayout = true := by decide +kernel

/-- The first and the last byte of the image. -/
theorem witness_RomBootloaderReadsImage :
    ((0x00 : Byte).toNat = (booting .bootActive 0).cfg.blBase.toNat + 0
        ∧ (booting .bootActive 0).cfg.bootloaderImage[0]? = some 0xB0)
      ∧ (0x02 : Byte).toNat = (booting .bootActive 0).cfg.blBase.toNat + 2
        ∧ (booting .bootActive 0).cfg.bootloaderImage[2]? = some 0xB2 := by decide +kernel

/-- The last kernel byte, and the first read past the end. -/
theorem witness_KernelDataReads :
    (booting .kernelLoading 1).cfg.kernelImage.length ≤ 65535
      ∧ (booting .kernelLoading 1).cfg.kernelImage[(booting .kernelLoading 1).rome.kptr.toNat]? = some 0x22
      ∧ (booting .complete 2).cfg.kernelImage.length ≤ (booting .complete 2).rome.kptr.toNat := by decide +kernel

theorem witness_NotServingCycles : Txn.isWrite 0x0FFFF = false ∧ Txn.isWrite 0x10000 = true := by decide

theorem witness_BootSequencerSteps :
    ((given (State.powerOn testParams 0 [] 0) .startBoot).nextEvent = .startBoot
        ∧ (State.powerOn testParams 0 [] 0).phase = .boot ∧ (State.powerOn testParams 0 [] 0).rome.rst = .inactive
        ∧ (State.powerOn testParams 0 [] 0).rome.started = false
        ∧ Params.valid (State.powerOn testParams 0 [] 0).cfg = true
        ∧ Params.valid (State.powerOn overlapping 0 [] 0).cfg = false)
      ∧ ((given (booting .resetSequence 0) .releaseReset).nextEvent = .releaseReset
        ∧ (booting .resetSequence 0).rome.rst = .resetSequence)
      ∧ (given (booting .complete 2) .handOff).nextEvent = .handOff ∧ (booting .complete 2).phase = .boot
        ∧ (booting .complete 2).rome.rst = .complete :=
  ⟨⟨rfl, rfl, rfl, rfl, test_params_test_configuration_is_valid, test_params_overlap_is_not_valid⟩, ⟨rfl, rfl⟩, rfl, rfl,
    rfl⟩

theorem witness_RomeCyclesTouchOnlyRome :
    (given (booting .bootActive 0) (readAt 0xFC)).phase = .boot
      ∧ (given (booting .bootActive 0) (readAt 0xFC)).nextEvent = readAt 0xFC
      ∧ step (given (booting .bootActive 0) (readAt 0xFC)) = .next ((booting .bootActive 0).drive 0x00) :=
  ⟨rfl, rfl, rfl⟩

/-- A dispatch for each of the three cases, at their boundaries (DM5, DM8 and DM9 or DM2). -/
theorem witness_DispatchStartsOrSignals :
    (given (queued 0x3FFFF 0x13B00 1) .dispatch).nextEvent = .dispatch
      ∧ (queued 0x3FFFF 0x13B00 1).icq = [⟨128, 129, 1⟩]
      ∧ 0x40000 ≤ ((queued 0x40000 0x13B00 0).cursor 128).current.toNat
      ∧ 0x40000 < ((queued 0x13A00 0x3FFF0 0x11).cursor 129).current.toNat + 0x11
      ∧ ((queued 0x3FFFF 0x13B00 1).cursor 128).current.toNat + 1 = 0x40000 := by decide +kernel

theorem witness_TransferMovesOneByte :
    (given (copying [0]) (.transfer 3)).nextEvent = .transfer 3 ∧ (copying [0]).dma.active = true
      ∧ 3 < (copying [0]).dma.count.toNat ∧ 3 ∉ (copying [0]).dma.done ∧ (copying [0]).dma.snap[3]? = some 0x04 := by
  decide +kernel

/-- All offsets transferred, and all but the last. -/
theorem witness_CompleteEndsCopyAndRaises :
    (given (copying [0, 1, 2, 3]) .complete).nextEvent = .complete
      ∧ ((copying [0, 1, 2, 3]).dma.active = true
        ∧ ∀ k, k < (copying [0, 1, 2, 3]).dma.count.toNat → k ∈ (copying [0, 1, 2, 3]).dma.done)
      ∧ ¬ ((copying [0, 1, 2]).dma.active = true
        ∧ ∀ k, k < (copying [0, 1, 2]).dma.count.toNat → k ∈ (copying [0, 1, 2]).dma.done) := by decide +kernel

theorem witness_ExternalRaiseSetsHighCauses : (given ready (.extRaise 0xFFF)).nextEvent = .extRaise 0xFFF := rfl

/-- A transfer that changes an arena byte, and a raise. -/
theorem witness_AgentStepsKeepHostState :
    Event.isAgentStep (given (copying [0]) (.transfer 3)).nextEvent = true
      ∧ step (given (copying [0]) (.transfer 3)) = .next ((copying [0]).transferStep 3)
      ∧ ((copying [0]).arenaWrite 0x13805 0x00).arenaByte 0x13805
        ≠ (((copying [0]).arenaWrite 0x13805 0x00).transferStep 3).arenaByte 0x13805
      ∧ (given ready (.extRaise 0x001)).nextEvent = .extRaise 0x001
      ∧ step (given ready (.extRaise 0x001)) = .next (ready.extRaiseStep 0x001) :=
  ⟨rfl, rfl, by decide +kernel, rfl, rfl⟩

theorem witness_RunningCopyIsNotCancelled :
    (given (copying [0]) (.transfer 3)).dma.active = true
      ∧ step (given (copying [0]) (.transfer 3)) = .next ((copying [0]).transferStep 3)
      ∧ ¬ nextIsReset (given (copying [0]) (.transfer 3)) ∧ (given (copying [0]) (.transfer 3)).nextEvent ≠ .complete :=
  ⟨rfl, rfl, given_no_cycle_is_no_reset _ _ (by decide) (by simp), by decide⟩

/-- A state with a copy in flight meets the invariant, and its next step goes on. -/
theorem witness_EveryStepKeepsInv :
    Inv (given (copying [0]) (.transfer 3))
      ∧ step (given (copying [0]) (.transfer 3)) = .next ((copying [0]).transferStep 3) := by
  refine ⟨?_, rfl⟩
  constructor
  case copyDone => exact fun _ => ⟨by decide, by decide⟩
  case startedValid => exact fun _ => test_params_test_configuration_is_valid
  all_goals decide +kernel

theorem witness_MemoryErrorIsSticky :
    ({ ready with st := ⟨true, false, false⟩, inbox := [writeAt 0xFF 0x03] } : State).cfg.memerrClearEvents = []
      ∧ ({ ready with st := ⟨true, false, false⟩, inbox := [writeAt 0xFF 0x03] } : State).st.memerr = true
      ∧ step (given { ready with st := ⟨true, false, false⟩ } (writeAt 0xFF 0x03))
          = .next { ready with st := ⟨true, false, false⟩, irq := ready.irq.clearAll }
      ∧ ¬ nextIsReset (given { ready with st := ⟨true, false, false⟩ } (writeAt 0xFF 0x03)) :=
  ⟨rfl, rfl, rfl, given_write_is_no_reset _ 0xFF 0x03 (by decide)⟩

/-- A step from NORMAL to BOOT, and one from BOOT to NORMAL. -/
theorem witness_PhaseChangesOnlyAtResetAndHandOff :
    (step (given ready (writeAt 0xFF 0x05)) = .next (State.powerOn testParams 1 [] 0)
        ∧ ready.phase = .normal ∧ (State.powerOn testParams 1 [] 0).phase = .boot)
      ∧ step (given (booting .complete 2) .handOff) = .next (booting .complete 2).handOffStep
        ∧ (booting .complete 2).phase = .boot ∧ (booting .complete 2).handOffStep.phase = .normal :=
  ⟨⟨rfl, rfl, rfl⟩, rfl, rfl, rfl⟩

/-- The overlapping copy of DM13, with the transfers out of order. -/
def overlapCopy : State :=
  { queued 0x13800 0x13802 4 with
    inbox := .dispatch :: ([3, 1, 0, 2].map Event.transfer ++ .complete :: []) }

theorem witness_CopyDeliversPreCopyBytes :
    overlapCopy.icq = [⟨128, 129, 4⟩] ∧ overlapCopy.dma.active = false
      ∧ 0x13800 = (overlapCopy.cursor 128).current.toNat ∧ 0x13802 = (overlapCopy.cursor 129).current.toNat
      ∧ 0 < (4 : Half).toNat ∧ 0x13800 + (4 : Half).toNat ≤ 0x40000 ∧ 0x13802 + (4 : Half).toNat ≤ 0x40000
      ∧ [3, 1, 0, 2].Perm (List.range (4 : Half).toNat)
      ∧ overlapCopy.inbox = .dispatch :: ([3, 1, 0, 2].map Event.transfer ++ .complete :: []) := by decide +kernel

/-- A running copy whose offset 0 stands at the destination. -/
def delivered : State := (copying [0]).arenaWrite 0x13802 0x01

theorem witness_CopyDeliversPreCopyBytes_step :
    Inv (given delivered (.transfer 3)) ∧ copyDelivered (given delivered (.transfer 3))
      ∧ step (given delivered (.transfer 3)) = .next (delivered.transferStep 3)
      ∧ ∀ a, nextStoresAt (given delivered (.transfer 3)) a → (given delivered (.transfer 3)).dma.active = true →
          ¬ inRange (given delivered (.transfer 3)).dma.dst.toNat (given delivered (.transfer 3)).dma.count.toNat a := by
  refine ⟨?_, fun _ => by decide +kernel, rfl, ?_⟩
  · constructor
    case copyDone => exact fun _ => ⟨by decide, by decide⟩
    case startedValid => exact fun _ => test_params_test_configuration_is_valid
    all_goals decide +kernel
  · rintro a ⟨t, w, d, ⟨p, o, he, _⟩, _⟩
    cases he

/-- A schedule with host cycles between the steps of a copy: an idle cycle, and a `DATA_PORT` write through window A,
whose cursor 0 stands at 0x00800. -/
def interleaved : Nat → Event
  | 0 => .dispatch
  | 1 => writeAt 0x01 0x5A
  | 2 => .transfer 0
  | 3 => .complete
  | _ + 4 => .extRaise 0x001

/-- The run of that schedule from a queued copy of one byte onto the next one. -/
def interleavedRun : Nat → State
  | 0 => queued 0x13800 0x13801 1
  | n + 1 => match step (given (interleavedRun n) (interleaved n)) with
    | .next t => t
    | .fault _ => ready
    | .refused _ => ready

/-- A step of the run that goes on leads to the run's next state. -/
theorem interleavedRun_step (n : Nat) (h : ∃ t, step (given (interleavedRun n) (interleaved n)) = .next t) :
    step (given (interleavedRun n) (interleaved n)) = .next (interleavedRun (n + 1)) := by
  obtain ⟨t, ht⟩ := h
  rw [ht]; show _ = Host.Outcome.next (match step (given (interleavedRun n) (interleaved n)) with
    | .next t => t | .fault _ => ready | .refused _ => ready)
  rw [ht]

/-- The hypotheses of the interleaved copy law, of the run above, with `n` = 3: host cycles happen while the copy runs. -/
theorem witness_CopyDeliversPreCopyBytes_interleaved :
    (∀ j, j ≤ 3 → step ((interleavedRun j).offer (interleaved j)) = .next (interleavedRun (j + 1)))
      ∧ Inv (interleavedRun 0) ∧ interleaved 0 = .dispatch ∧ (interleavedRun 0).icq = [⟨128, 129, 1⟩]
      ∧ (interleavedRun 0).dma.active = false
      ∧ 0x13800 = ((interleavedRun 0).cursor 128).current.toNat
      ∧ 0x13801 = ((interleavedRun 0).cursor 129).current.toNat
      ∧ 0x13800 + 1 ≤ 0x40000 ∧ 0x13801 + 1 ≤ 0x40000
      ∧ (∀ j, 0 < j → j < 3 → ¬ nextIsReset ((interleavedRun j).offer (interleaved j))
        ∧ ¬ (interleaved j = .complete ∧ Event.enabled (interleavedRun j) .complete = true)
        ∧ ∀ a, nextStoresAt ((interleavedRun j).offer (interleaved j)) a →
            (interleavedRun j).sourcePending a = false ∧ ¬ inRange 0x13801 1 a)
      ∧ interleaved 3 = .complete ∧ Event.enabled (interleavedRun 3) .complete = true := by
  refine ⟨?_, ?_, rfl, rfl, rfl, by decide +kernel, by decide +kernel, by decide, by decide, ?_, rfl, by decide +kernel⟩
  · intro j hj
    interval_cases j <;> exact interleavedRun_step _ ⟨_, rfl⟩
  · constructor
    case startedValid => exact fun _ => test_params_test_configuration_is_valid
    case copyDone => exact fun h => absurd h (by decide +kernel)
    all_goals decide +kernel
  · intro j h0 hj
    interval_cases j
    · refine ⟨given_write_is_no_reset _ 0x01 0x5A (by decide +kernel), by simp [interleaved, writeAt], ?_⟩
      rintro a ⟨t, w, d, ⟨p, o, he, _, ht⟩, hd, rfl, _⟩
      obtain ⟨rfl, rfl⟩ : Txn.pins (mkTxn true 0x5A 0x01) = p ∧ false = o := by injection he with h1 h2; exact ⟨h1, h2⟩
      rcases ht with ⟨hr, _⟩ | ⟨_, rfl⟩
      · simp [BusPins.direction_pins] at hr
      · have hw : decode testParams .normal .inactive 0x15A01 = .wrDataPort 0 0x5A := by decide
        obtain ⟨rfl, _⟩ : 0 = w ∧ 0x5A = d := by
          have h := hw.symm.trans hd
          injection h with h1 h2; exact ⟨h1, h2⟩
        exact ⟨by decide +kernel, fun h => absurd h.1 (by decide +kernel)⟩
    · refine ⟨given_no_cycle_is_no_reset _ _ (by decide) (by simp [interleaved]), by simp [interleaved], ?_⟩
      rintro a ⟨t, w, d, ⟨p, o, he, _⟩, _⟩
      cases he

theorem witness_BootStreamsKernelThenHandsOff : Params.valid testParams = true ∧ Params.valid emptyKernel = true := by
  decide +kernel

/-- A host that only idles. -/
def idle : Event := .busCycle ⟨false, true, true, 0, 0⟩ false

/-- A command with count 0 in the queue: its dispatch signals an error and starts no copy. -/
def oneCommand : State := queued 0x13A00 0x13B00 0

/-- The state that the dispatch of `oneCommand` leaves, with no byte on the bus. -/
def afterDispatch : State :=
  { oneCommand with icq := [], st := ⟨true, false, false⟩, irq := ⟨0x0008, 0xFFFF, true, true⟩ }

/-- A raise by an external source leaves the dispatch enabled. -/
theorem witness_FairRunsTakeEnabledAgentSteps_step :
    Event.isAgentStep .dispatch = true ∧ Event.enabled (given oneCommand (.extRaise 0x001)) .dispatch = true
      ∧ step (given oneCommand (.extRaise 0x001)) = .next (oneCommand.extRaiseStep 0x001)
      ∧ (given oneCommand (.extRaise 0x001)).nextEvent ≠ .dispatch
      ∧ ¬ nextIsReset (given oneCommand (.extRaise 0x001)) :=
  ⟨rfl, rfl, rfl, by decide, given_no_cycle_is_no_reset _ _ (by decide) (by simp)⟩

/-- A fair run in which the dispatch is enabled at the start: it is taken, and then the host idles for ever. -/
theorem witness_FairRunsTakeEnabledAgentSteps :
    ∃ (run : Nat → State) (ev : Nat → Event), IsRun run ev ∧ WeaklyFair run ev
      ∧ Event.isAgentStep .dispatch = true ∧ Event.enabled (run 0) .dispatch = true := by
  refine ⟨fun n => if n = 0 then oneCommand else afterDispatch, fun n => if n = 0 then .dispatch else idle, ?_, ?_, rfl,
    rfl⟩
  · intro n
    by_cases h : n = 0
    · subst h; rfl
    · simp only [h, if_false, Nat.add_one_ne_zero]; rfl
  · intro e he n hall
    have h := hall (n + 1) (Nat.le_succ n)
    simp only [Nat.add_one_ne_zero, if_false] at h
    exfalso
    cases e <;> simp_all [Event.isAgentStep, Event.enabled, afterDispatch, oneCommand, queued, ready, resetDma,
      State.powerOn]

end Sys2Proof.Tests
end

section
/-! PROOFS. The opcode table against the decoder (30_encoding.md R111, R121, R123). A word selects the row that carries
the mnemonic of the instruction it decodes to (`rowSelected_decode`), and no other: any two rows of the table differ in
their phase, in a bit that both fix, or in what a constraint allows (`opcodeRows_pairwise_apart`). -/

open Sys2Proof Sys2Proof.Machine

namespace Sys2Proof

/-! ### The fields of an address -/

/-- Bit 7 of an address, as the mask that R111 tests. -/
theorem addr_getLsbD_seven (a : Byte) : a.getLsbD 7 = true ↔ a &&& 0x80 ≠ 0 :=
  flag_iff a 7 (by decide)

/-- The window of an address, `(a >> 4) & 7` (30_encoding.md R111). -/
theorem addr_window_toNat (a : Byte) : (a.extractLsb' 4 3).toNat = ((a >>> 4) &&& 7).toNat := by
  revert a; decide

/-- The offset of an address, `a & 15` (30_encoding.md R111). -/
theorem addr_offset_toNat (a : Byte) : (a.extractLsb' 0 4).toNat = (a &&& 15).toNat := by
  revert a; decide

/-- The register of an address, `a & 0x7F` (30_encoding.md R111). -/
theorem addr_register_toNat (a : Byte) : (a.extractLsb' 0 7).toNat = (a &&& 0x7F).toNat := by
  revert a; decide

/-- The low nibble of an address, as a mask. -/
theorem toNat_mod_sixteen (a : Byte) : a.toNat % 16 = (a &&& 0x0F).toNat := by
  revert a; decide

/-- The low nibble of a window address is its offset (30_encoding.md R111). -/
theorem windowAddr_toNat_mod_sixteen (w : WinNo) (o : BitVec 4) : (windowAddr w o).toNat % 16 = o.toNat := by
  revert w o; decide

/-- The two spellings of the recognised shared addresses: by the address and by its low seven bits (30_encoding.md
R113). -/
theorem recognisedAddrs_contains_sharedAddr (r : BitVec 7) :
    recognisedAddrs.contains (sharedAddr r) = sharedRecognised r := by
  revert r; decide

/-- Every local address is a window's or a shared register's (30_encoding.md R111). -/
theorem localAddr_cases (a : Byte) : (∃ w o, a = windowAddr w o) ∨ ∃ r, a = sharedAddr r := by
  cases h : a.getLsbD 7 with
  | false => exact .inl ⟨_, _, (windowAddr_of_fields a h).symm⟩
  | true => exact .inr ⟨_, (sharedAddr_of_fields a h).symm⟩

/-! ### The ROME map -/

/-- Each region of the ROME map, with what puts an address in it (47_rom_emulator.md R321). -/
theorem romeRegion_cases (p : Params) (a : Byte) :
    (a = p.romeVecLo ∧ romeRegion p a = .vectorLo) ∨ (a = p.romeVecHi ∧ romeRegion p a = .vectorHi)
      ∨ (a = p.kstatusAddr ∧ romeRegion p a = .kstatus) ∨ (a = p.kdataAddr ∧ romeRegion p a = .kdata)
      ∨ (inBootloader p a = true ∧ romeRegion p a = .bootloader)
      ∨ (inBootloader p a = false ∧ romeRegion p a = .filler) := by
  unfold romeRegion
  split_ifs <;> simp_all

/-- The filler region holds no address of the bootloader image. -/
theorem inBootloader_of_romeRegion_filler {p : Params} {a : Byte} (h : romeRegion p a = .filler) :
    inBootloader p a = false := by
  rcases romeRegion_cases p a with ⟨_, hr⟩ | ⟨_, hr⟩ | ⟨_, hr⟩ | ⟨_, hr⟩ | ⟨_, hr⟩ | ⟨hb, _⟩
  case inr.inr.inr.inr.inr => exact hb
  all_goals exact absurd (h.symm.trans hr) (by decide)

/-- The four local addresses that the BOOT rows of the table fix. -/
def tableRomeAddrs : List Byte := [0xFC, 0xFD, 0xE0, 0xE1]

/-- "The regions must not overlap": the single addresses lie outside the bootloader region (47_rom_emulator.md R321). -/
theorem inBootloader_of_valid {p : Params} (h : Params.valid p = true) :
    inBootloader p p.romeVecLo = false ∧ inBootloader p p.romeVecHi = false
      ∧ inBootloader p p.kstatusAddr = false ∧ inBootloader p p.kdataAddr = false := by
  simp only [Params.valid, romeRegionsDisjoint, Bool.and_eq_true, Bool.not_eq_true'] at h
  obtain ⟨⟨⟨_, ⟨⟨⟨⟨_, hlo⟩, hhi⟩, hks⟩, hkd⟩, _⟩, _⟩, _⟩ := h
  exact ⟨hlo, hhi, hks, hkd⟩

/-- In an admitted configuration with the table's addresses, those four lie neither in the bootloader region nor in the
filler. -/
theorem tableRomeAddrs_in_no_range {p : Params} (hv : Params.valid p = true) (hp : tableAddressesApply p) {a : Byte}
    (ha : tableRomeAddrs.contains a = true) : inBootloader p a = false ∧ romeRegion p a ≠ .filler := by
  obtain ⟨hlo, hhi, hks, hkd⟩ := hp
  have hcases : a = p.romeVecLo ∨ a = p.romeVecHi ∨ a = p.kstatusAddr ∨ a = p.kdataAddr := by
    rw [hlo, hhi, hks, hkd]; simpa [tableRomeAddrs] using ha
  obtain ⟨rlo, rhi, rks, rkd⟩ := romeRegion_of_valid hv
  obtain ⟨blo, bhi, bks, bkd⟩ := inBootloader_of_valid hv
  rcases hcases with rfl | rfl | rfl | rfl
  · exact ⟨blo, by simp [rlo]⟩
  · exact ⟨bhi, by simp [rhi]⟩
  · exact ⟨bks, by simp [rks]⟩
  · exact ⟨bkd, by simp [rkd]⟩

/-! ### The row of the decoded mnemonic selects the word -/

/-- Some row of the table with the instruction's mnemonic selects the word. -/
def RowSelected (p : Params) (ph : Phase) (rst : RomeState) (t : Txn) (i : Instr) : Prop :=
  ∃ row ∈ opcodeRows, row.mnemonic = i.mnemonic ∧ row.selects p ph rst t = true

/-- A row whose pattern is the word under the row's mask selects the word if its constraint holds. -/
theorem rowSelected_of_mem {p : Params} {ph : Phase} {rst : RomeState} {t : Txn} {i : Instr} (mask : Txn)
    (c : RowConstraint) (hrow : opcodeRows.contains ⟨i.mnemonic, ph, mask, t &&& mask, c⟩ = true)
    (hc : c.holds p rst t = true) : RowSelected p ph rst t i :=
  ⟨_, List.contains_iff_mem.mp hrow, rfl, by simp [OpcodeRow.selects, hc]⟩

/-! A word under each mask of the table keeps the fields that the mask fixes. -/

theorem and_addrMask (wr : Bool) (d a : Byte) : mkTxn wr d a &&& 0x100FF = mkTxn wr 0 a :=
  (txn_matches_iff _ true wr 0 0xFF 0 a).mpr (by simp [show a &&& 255#8 = a from BitVec.and_allOnes])

theorem and_wholeMask (t : Txn) : t &&& 0x1FFFF = t := BitVec.and_allOnes

theorem and_directionMask (wr : Bool) (d a : Byte) : mkTxn wr d a &&& 0x10000 = mkTxn wr 0 0 :=
  (txn_matches_iff _ true wr 0 0 0 0).mpr (by simp)

theorem and_offsetMask (wr : Bool) (d : Byte) (w : WinNo) (o : BitVec 4) :
    mkTxn wr d (windowAddr w o) &&& 0x1008F = mkTxn wr 0 (o.setWidth 8) :=
  (txn_matches_iff _ true wr 0 0x8F 0 _).mpr (by simp [← windowAddr_and_offset w o])

theorem and_offsetDataMask (wr : Bool) (d : Byte) (w : WinNo) (o : BitVec 4) :
    mkTxn wr d (windowAddr w o) &&& 0x1FF8F = mkTxn wr d (o.setWidth 8) :=
  (txn_matches_iff _ true wr 0xFF 0x8F d _).mpr
    (by simp [← windowAddr_and_offset w o, show d &&& 255#8 = d from BitVec.and_allOnes])

theorem and_sharedMask_windowAddr (wr : Bool) (d : Byte) (w : WinNo) (o : BitVec 4) :
    mkTxn wr d (windowAddr w o) &&& 0x10080 = mkTxn wr 0 0x00 :=
  (txn_matches_iff _ true wr 0 0x80 0 0x00).mpr (by simpa using windowAddr_and_shared w o)

theorem and_sharedMask_sharedAddr (wr : Bool) (d : Byte) (r : BitVec 7) :
    mkTxn wr d (sharedAddr r) &&& 0x10080 = mkTxn wr 0 0x80 :=
  (txn_matches_iff _ true wr 0 0x80 0 0x80).mpr (by simpa using sharedAddr_and_shared r)

/-! The rows of one register or of one command, by the mask they share. -/

section
variable {p : Params} {ph : Phase} {rst : RomeState} {wr : Bool} {d a : Byte} {w : WinNo} {o : BitVec 4} {r : BitVec 7}
  {i : Instr}

theorem rowSelected_windowRegister (c : RowConstraint)
    (hrow : opcodeRows.contains ⟨i.mnemonic, .normal, 0x1008F, mkTxn wr 0 (o.setWidth 8), c⟩ = true)
    (hc : c.holds p rst (mkTxn wr d (windowAddr w o)) = true) :
    RowSelected p .normal rst (mkTxn wr d (windowAddr w o)) i :=
  rowSelected_of_mem 0x1008F c (by rwa [and_offsetMask]) hc

theorem rowSelected_windowCommand
    (hrow : opcodeRows.contains ⟨i.mnemonic, .normal, 0x1FF8F, mkTxn true d 0x04, .none⟩ = true) :
    RowSelected p .normal rst (mkTxn true d (windowAddr w 0x4)) i :=
  rowSelected_of_mem 0x1FF8F .none (by rw [and_offsetDataMask]; exact hrow) rfl

theorem rowSelected_address (c : RowConstraint)
    (hrow : opcodeRows.contains ⟨i.mnemonic, ph, 0x100FF, mkTxn wr 0 a, c⟩ = true)
    (hc : c.holds p rst (mkTxn wr d a) = true) : RowSelected p ph rst (mkTxn wr d a) i :=
  rowSelected_of_mem 0x100FF c (by rwa [and_addrMask]) hc

theorem rowSelected_sharedCommand
    (hrow : opcodeRows.contains ⟨i.mnemonic, .normal, 0x1FFFF, mkTxn true d 0xFF, .none⟩ = true) :
    RowSelected p .normal rst (mkTxn true d 0xFF) i :=
  rowSelected_of_mem 0x1FFFF .none (by rwa [and_wholeMask]) rfl

theorem rowSelected_direction (c : RowConstraint)
    (hrow : opcodeRows.contains ⟨i.mnemonic, ph, 0x10000, mkTxn wr 0 0, c⟩ = true)
    (hc : c.holds p rst (mkTxn wr d a) = true) : RowSelected p ph rst (mkTxn wr d a) i :=
  rowSelected_of_mem 0x10000 c (by rwa [and_directionMask]) hc

/-- The opcodes of a window command (30_encoding.md R116). -/
theorem rowSelected_decodeCommand :
    RowSelected p .normal rst (mkTxn true d (windowAddr w 0x4)) (decodeCommand w d) := by
  rcases decodeCommand_cases w d with ⟨rfl, h⟩ | ⟨rfl, h⟩ | ⟨rfl, h⟩ | ⟨rfl, h⟩ | ⟨hd, h⟩ <;> rw [h]
  · exact rowSelected_windowCommand rfl
  · exact rowSelected_windowCommand rfl
  · exact rowSelected_windowCommand rfl
  · exact rowSelected_windowCommand rfl
  · exact rowSelected_windowRegister .cmdUnknown rfl (by simpa [RowConstraint.holds] using hd)

/-- The opcodes of a shared command (30_encoding.md R116). -/
theorem rowSelected_decodeSharedCommand :
    RowSelected p .normal rst (mkTxn true d 0xFF) (decodeSharedCommand d) := by
  rcases decodeSharedCommand_cases d with
    ⟨rfl, h⟩ | ⟨rfl, h⟩ | ⟨rfl, h⟩ | ⟨rfl, h⟩ | ⟨rfl, h⟩ | ⟨rfl, h⟩ | ⟨hd, h⟩ <;> rw [h]
  · exact rowSelected_sharedCommand rfl
  · exact rowSelected_sharedCommand rfl
  · exact rowSelected_sharedCommand rfl
  · exact rowSelected_sharedCommand rfl
  · exact rowSelected_sharedCommand rfl
  · exact rowSelected_sharedCommand rfl
  · exact rowSelected_address .scmdUnknown rfl (by simpa [RowConstraint.holds] using hd)

/-- The window register map (30_encoding.md R112). -/
theorem rowSelected_decodeWindow :
    RowSelected p .normal rst (mkTxn wr d (windowAddr w o)) (decodeWindow wr w o d) := by
  rcases windowOffset_cases o with rfl | rfl | rfl | rfl | rfl | ho
  · cases wr <;> exact rowSelected_windowRegister .none rfl rfl
  · cases wr <;> exact rowSelected_windowRegister .none rfl rfl
  · cases wr <;> exact rowSelected_windowRegister .none rfl rfl
  · cases wr <;> exact rowSelected_windowRegister .none rfl rfl
  · cases wr
    · exact rowSelected_windowRegister .none rfl rfl
    · exact rowSelected_decodeCommand
  · rw [decodeWindow_reserved wr d w o ho]
    have hc : RowConstraint.winReserved.holds p rst (mkTxn wr d (windowAddr w o)) = true := by
      simpa [RowConstraint.holds, windowAddr_toNat_mod_sixteen] using ho
    refine rowSelected_of_mem 0x10080 .winReserved ?_ hc
    rw [and_sharedMask_windowAddr]
    cases wr <;> rfl

/-- The shared register map (30_encoding.md R113). -/
theorem rowSelected_decodeShared :
    RowSelected p .normal rst (mkTxn wr d (sharedAddr r)) (decodeShared wr r d) := by
  rcases sharedRegister_cases r with rfl | rfl | rfl | rfl | rfl | rfl | rfl | hr
  · cases wr <;> exact rowSelected_address .none rfl rfl
  · cases wr <;> exact rowSelected_address .none rfl rfl
  · cases wr <;> exact rowSelected_address .none rfl rfl
  · cases wr <;> exact rowSelected_address .none rfl rfl
  · cases wr <;> exact rowSelected_address .none rfl rfl
  · cases wr <;> exact rowSelected_address .none rfl rfl
  · cases wr
    · exact rowSelected_address .none rfl rfl
    · exact rowSelected_decodeSharedCommand
  · rw [decodeShared_reserved wr d r hr]
    have hc : RowConstraint.sharedReserved.holds p rst (mkTxn wr d (sharedAddr r)) = true := by
      rw [RowConstraint.holds, Txn.addr_mkTxn, recognisedAddrs_contains_sharedAddr, hr]; rfl
    refine rowSelected_of_mem 0x10080 .sharedReserved ?_ hc
    rw [and_sharedMask_sharedAddr]
    cases wr <;> rfl

/-- Phase NORMAL (30_encoding.md R111). -/
theorem rowSelected_decodeNormal : RowSelected p .normal rst (mkTxn wr d a) (decodeNormal (mkTxn wr d a)) := by
  rcases localAddr_cases a with ⟨w, o, rfl⟩ | ⟨r, rfl⟩
  · rw [decodeNormal_windowAddr]; exact rowSelected_decodeWindow
  · rw [decodeNormal_sharedAddr]; exact rowSelected_decodeShared

/-- A read that ROME serves, at an address of the table or of a range (47_rom_emulator.md R321). -/
theorem rowSelected_decodeBoot_read (hp : tableAddressesApply p) (hs : rst.serving = true) :
    RowSelected p .boot rst (mkTxn false d a) (decodeBoot p rst (mkTxn false d a)) := by
  obtain ⟨hlo, hhi, hks, hkd⟩ := hp
  rcases romeRegion_cases p a with ⟨ha, h⟩ | ⟨ha, h⟩ | ⟨ha, h⟩ | ⟨ha, h⟩ | ⟨hb, h⟩ | ⟨_, h⟩ <;>
    simp only [decodeBoot, hs, h, Txn.isWrite_mkTxn, Txn.addr_mkTxn, if_true, Bool.false_eq_true, if_false]
  · rw [ha, hlo]; exact rowSelected_address .serving rfl hs
  · rw [ha, hhi]; exact rowSelected_address .serving rfl hs
  · rw [ha, hks]; exact rowSelected_address .serving rfl hs
  · rw [ha, hkd]; exact rowSelected_address .serving rfl hs
  · exact rowSelected_direction .bootloader rfl (by simp [RowConstraint.holds, hs, hb])
  · exact rowSelected_direction .filler rfl (by simp [RowConstraint.holds, hs, h])

/-- Phase BOOT (47_rom_emulator.md R321, R324, R335). -/
theorem rowSelected_decodeBoot (hp : tableAddressesApply p) :
    RowSelected p .boot rst (mkTxn wr d a) (decodeBoot p rst (mkTxn wr d a)) := by
  cases hs : rst.serving with
  | false =>
    have hdec : decodeBoot p rst (mkTxn wr d a) = .romCycleNotServing (mkTxn wr d a) := by simp [decodeBoot, hs]
    rw [hdec]
    exact rowSelected_of_mem 0 .notServing (by rw [show mkTxn wr d a &&& 0 = 0 from BitVec.and_zero]; rfl)
      (by simp [RowConstraint.holds, hs])
  | true =>
    cases wr with
    | false => exact rowSelected_decodeBoot_read hp hs
    | true =>
      have hdec : decodeBoot p rst (mkTxn true d a) = .romWr a d := by simp [decodeBoot, hs]
      rw [hdec]
      exact rowSelected_direction .serving rfl hs

end

/-- The table names every decoded instruction by a row that selects its word (30_encoding.md R121, R123). -/
theorem rowSelected_decode {p : Params} (hp : tableAddressesApply p) (ph : Phase) (rst : RomeState) (t : Txn) :
    RowSelected p ph rst t (decode p ph rst t) := by
  rw [← mkTxn_fields t]
  cases ph with
  | normal => exact rowSelected_decodeNormal
  | boot => exact rowSelected_decodeBoot hp

/-! ### No two rows select the same word -/

/-- A constraint that fails on every word of a row, by the fields that the row's mask fixes or by the row's own
constraint. -/
def RowConstraint.rejects (row : OpcodeRow) : RowConstraint → Bool
  | .none | .serving => false
  | .cmdUnknown => decide (Txn.data row.mask = 0xFF) && decide ((Txn.data row.pattern).toNat < 4)
  | .scmdUnknown => decide (Txn.data row.mask = 0xFF) && decide ((Txn.data row.pattern).toNat < 6)
  | .winReserved => decide (Txn.addr row.mask &&& 0x0F = 0x0F) && decide ((Txn.addr row.pattern).toNat % 16 < 5)
  | .sharedReserved => decide (Txn.addr row.mask = 0xFF) && recognisedAddrs.contains (Txn.addr row.pattern)
  | .bootloader => (decide (Txn.addr row.mask = 0xFF) && tableRomeAddrs.contains (Txn.addr row.pattern))
      || decide (row.constraint = .filler)
  | .filler => decide (Txn.addr row.mask = 0xFF) && tableRomeAddrs.contains (Txn.addr row.pattern)
  | .notServing => decide (row.constraint ∈ [.serving, .bootloader, .filler])

/-- Two rows that the table itself tells apart: by their phases, by a bit that both fix, or by a constraint. -/
def OpcodeRow.apart (row row' : OpcodeRow) : Bool :=
  decide (row.phase ≠ row'.phase) || decide (row.pattern &&& row'.mask ≠ row'.pattern &&& row.mask)
    || row.constraint.rejects row' || row'.constraint.rejects row

/-- What selecting a word says of its fields (30_encoding.md R123). -/
theorem OpcodeRow.fields_of_selects {p : Params} {ph : Phase} {rst : RomeState} {t : Txn} {row : OpcodeRow}
    (h : row.selects p ph rst t = true) :
    row.phase = ph ∧ t &&& row.mask = row.pattern ∧ Txn.data t &&& Txn.data row.mask = Txn.data row.pattern
      ∧ Txn.addr t &&& Txn.addr row.mask = Txn.addr row.pattern ∧ row.constraint.holds p rst t = true := by
  simp only [OpcodeRow.selects, Bool.and_eq_true, decide_eq_true_eq] at h
  obtain ⟨⟨hph, hm⟩, hc⟩ := h
  have hfields := hm
  rw [← mkTxn_fields row.mask, ← mkTxn_fields row.pattern, txn_matches_iff] at hfields
  obtain ⟨_, hd, ha⟩ := hfields
  exact ⟨hph, hm, hd, ha, hc⟩

/-- A mask of the whole byte fixes the byte. -/
theorem eq_of_and_wholeByte {x m y : Byte} (h : x &&& m = y) (hm : m = 0xFF) : x = y := by
  rw [← h, hm]; exact BitVec.and_allOnes.symm

/-- A rejecting constraint fails on every word that the row selects. -/
theorem RowConstraint.not_holds_of_rejects {p : Params} (hv : Params.valid p = true) (hp : tableAddressesApply p)
    {ph : Phase} {rst : RomeState} {t : Txn} {row : OpcodeRow} (hsel : row.selects p ph rst t = true)
    {c : RowConstraint} (hr : c.rejects row = true) : c.holds p rst t = false := by
  obtain ⟨_, _, hd, ha, hc⟩ := OpcodeRow.fields_of_selects hsel
  cases c <;> simp only [RowConstraint.rejects, Bool.and_eq_true, Bool.or_eq_true, decide_eq_true_eq,
    Bool.false_eq_true] at hr
  case cmdUnknown =>
    obtain ⟨hm, hlt⟩ := hr
    simp [RowConstraint.holds, eq_of_and_wholeByte hd hm, hlt]
  case scmdUnknown =>
    obtain ⟨hm, hlt⟩ := hr
    simp [RowConstraint.holds, eq_of_and_wholeByte hd hm, hlt]
  case winReserved =>
    obtain ⟨hm, hlt⟩ := hr
    rw [← ha, toNat_mod_sixteen, BitVec.and_assoc, hm, ← toNat_mod_sixteen] at hlt
    simp [RowConstraint.holds, hlt]
  case sharedReserved =>
    obtain ⟨hm, hin⟩ := hr
    rw [RowConstraint.holds, eq_of_and_wholeByte ha hm, hin]; rfl
  case bootloader =>
    have hout : inBootloader p (Txn.addr t) = false := by
      rcases hr with ⟨hm, hin⟩ | hf
      · exact (tableRomeAddrs_in_no_range hv hp (eq_of_and_wholeByte ha hm ▸ hin)).1
      · simp only [hf, RowConstraint.holds, Bool.and_eq_true, decide_eq_true_eq] at hc
        exact inBootloader_of_romeRegion_filler hc.2
    simp [RowConstraint.holds, hout]
  case filler =>
    obtain ⟨hm, hin⟩ := hr
    have hout := (tableRomeAddrs_in_no_range hv hp (eq_of_and_wholeByte ha hm ▸ hin)).2
    simp [RowConstraint.holds, hout]
  case notServing =>
    have hs : rst.serving = true := by
      simp only [List.mem_cons, List.not_mem_nil, or_false] at hr
      rcases hr with h | h | h <;> simp_all [RowConstraint.holds]
    simp [RowConstraint.holds, hs]

/-- Rows that the table tells apart select no word in common. -/
theorem OpcodeRow.not_both_select {p : Params} (hv : Params.valid p = true) (hp : tableAddressesApply p) {ph : Phase}
    {rst : RomeState} {t : Txn} {row row' : OpcodeRow} (h : row.apart row' = true)
    (hsel : row.selects p ph rst t = true) (hsel' : row'.selects p ph rst t = true) : False := by
  obtain ⟨hph, hm, _, _, hc⟩ := OpcodeRow.fields_of_selects hsel
  obtain ⟨hph', hm', _, _, hc'⟩ := OpcodeRow.fields_of_selects hsel'
  simp only [OpcodeRow.apart, Bool.or_eq_true, decide_eq_true_eq] at h
  rcases h with ((h | h) | h) | h
  · exact h (hph.trans hph'.symm)
  · refine h ?_
    rw [← hm, ← hm', BitVec.and_assoc, BitVec.and_assoc, BitVec.and_comm row.mask]
  · exact absurd hc (by simp [RowConstraint.not_holds_of_rejects hv hp hsel' h])
  · exact absurd hc' (by simp [RowConstraint.not_holds_of_rejects hv hp hsel h])

/-- The table tells its 46 rows apart, two by two. -/
theorem opcodeRows_pairwise_apart : opcodeRows.Pairwise (fun row row' => row.apart row' = true) := by
  decide +kernel

/-- No two rows have one mnemonic. -/
theorem opcodeRows_mnemonic_nodup : (opcodeRows.map OpcodeRow.mnemonic).Nodup := by
  simp [opcodeRows, normalRows, bootRows]

/-- Every word selects at most one row (30_encoding.md R121). -/
theorem opcodeRows_select_unique {p : Params} (hv : Params.valid p = true) (hp : tableAddressesApply p) {ph : Phase}
    {rst : RomeState} {t : Txn} : ∀ row ∈ opcodeRows, ∀ row' ∈ opcodeRows, row.selects p ph rst t = true →
      row'.selects p ph rst t = true → row = row' := by
  refine List.Pairwise.forall_of_forall_of_flip (fun _ _ _ _ => rfl) ?_ ?_
  · exact opcodeRows_pairwise_apart.imp fun h hsel hsel' => (OpcodeRow.not_both_select hv hp h hsel hsel').elim
  · exact opcodeRows_pairwise_apart.imp fun h hsel hsel' => (OpcodeRow.not_both_select hv hp h hsel' hsel).elim

/-! ### The obligations -/

/-- Settles O2: the row of the decoded mnemonic selects the word, and no other row does. -/
theorem everyWordSelectsItsRow : Obligations.EveryWordSelectsItsRow := by
  intro p ph rst t hv hp
  obtain ⟨row, hrow, hname, hsel⟩ := rowSelected_decode hp ph rst t
  refine ⟨⟨row, hrow, hsel⟩, fun row' hrow' => ⟨fun hsel' => ?_, fun hname' => ?_⟩⟩
  · rw [← hname, opcodeRows_select_unique hv hp row' hrow' row hrow hsel' hsel]
  · rwa [List.inj_on_of_nodup_map opcodeRows_mnemonic_nodup hrow' hrow (hname'.trans hname.symm)]

/-- Settles O5: the fields of R111 are the slices of the address that the decoder takes. -/
theorem addressDecodeFormulas : Obligations.AddressDecodeFormulas := by
  refine ⟨fun t h => ?_, fun t h => ?_, rfl, rfl, rfl, rfl⟩
  · refine ⟨(Txn.addr t).extractLsb' 4 3, (Txn.addr t).extractLsb' 0 4, addr_window_toNat _, addr_offset_toNat _, ?_⟩
    rw [decodeNormal, if_neg (fun hbit => (addr_getLsbD_seven _).mp hbit h)]
  · refine ⟨(Txn.addr t).extractLsb' 0 7, addr_register_toNat _, ?_⟩
    rw [decodeNormal, if_pos ((addr_getLsbD_seven _).mpr h)]

end Sys2Proof
end

section
/-! PROOFS. The window latches and the accesses without effect (41_register_decode_window.md), with their encodings. A
match of the opcode table fixes some fields of a word, and those fields name the entry of the register map that the word
decodes by: one rule for each mask that a row carries (30_encoding.md R111 to R116, R123). -/

open Sys2Proof Sys2Proof.Machine

namespace Sys2Proof

/-! ### The register map that a word decodes by -/

/-- A word with bit 7 of its address clear decodes by the window map (30_encoding.md R111). -/
theorem decodeNormal_of_window {t : Txn} (h : Txn.addr t &&& 0x80 = 0x00) :
    decodeNormal t = decodeWindow (Txn.isWrite t) (Txn.window t) (Txn.offset t) (Txn.data t) := by
  rw [decodeNormal, if_neg (fun hbit => (addr_getLsbD_seven _).mp hbit h)]; rfl

/-- Bit 7 of an address that meets the match of a shared row (30_encoding.md R111). -/
theorem getLsbD_seven_of_and_shared {a : Byte} (h : a &&& 0x80 = 0x80) : a.getLsbD 7 = true :=
  (addr_getLsbD_seven a).mpr (by rw [h]; decide)

/-- A word with bit 7 of its address set decodes by the shared map (30_encoding.md R111). -/
theorem decodeNormal_of_shared {t : Txn} (h : Txn.addr t &&& 0x80 = 0x80) :
    decodeNormal t = decodeShared (Txn.isWrite t) (Txn.register t) (Txn.data t) := by
  rw [decodeNormal, if_pos (getLsbD_seven_of_and_shared h)]; rfl

/-- An address whose bit 7 and offset read as an offset alone lies in a window, at that offset (30_encoding.md R112). -/
theorem window_of_and_offset {a : Byte} {o : BitVec 4} (h : a &&& 0x8F = o.setWidth 8) :
    a &&& 0x80 = 0x00 ∧ a.extractLsb' 0 4 = o := by
  have hbit : o.setWidth 8 &&& (0x80 : Byte) = 0x00 := by clear h; revert o; decide
  have hlow : a.extractLsb' 0 4 = (a &&& 0x8F).extractLsb' 0 4 := by clear h hbit; revert a; decide
  constructor
  · calc a &&& 0x80 = (a &&& 0x8F) &&& 0x80 := by rw [BitVec.and_assoc]; rfl
      _ = 0x00 := by rw [h, hbit]
  · calc a.extractLsb' 0 4 = (o.setWidth 8).extractLsb' 0 4 := by rw [hlow, h]
      _ = o := by clear h hbit; revert o; decide

/-- The opcodes of a window command past the four assigned ones (30_encoding.md R116). -/
theorem decodeCommand_unknown (w : WinNo) {d : Byte} (h : 4 ≤ d.toNat) : decodeCommand w d = .cmdUnknown w d := by
  rcases decodeCommand_cases w d with ⟨rfl, _⟩ | ⟨rfl, _⟩ | ⟨rfl, _⟩ | ⟨rfl, _⟩ | ⟨_, hdec⟩
  case inr.inr.inr.inr => exact hdec
  all_goals exact absurd h (by decide)

/-- The opcodes of a shared command past the six assigned ones (30_encoding.md R116). -/
theorem decodeSharedCommand_unknown {d : Byte} (h : 6 ≤ d.toNat) : decodeSharedCommand d = .scmdUnknown d := by
  rcases decodeSharedCommand_cases d with
    ⟨rfl, _⟩ | ⟨rfl, _⟩ | ⟨rfl, _⟩ | ⟨rfl, _⟩ | ⟨rfl, _⟩ | ⟨rfl, _⟩ | ⟨_, hdec⟩
  case inr.inr.inr.inr.inr.inr => exact hdec
  all_goals exact absurd h (by decide)

/-- A shared address that R113 does not recognise is a reserved register. -/
theorem sharedRecognised_register {t : Txn} (h : Txn.addr t &&& 0x80 = 0x80) (ha : Txn.addr t ∉ recognisedAddrs) :
    sharedRecognised (Txn.register t) = false := by
  have hshared : sharedAddr (Txn.register t) = Txn.addr t := sharedAddr_of_fields _ (getLsbD_seven_of_and_shared h)
  rw [← recognisedAddrs_contains_sharedAddr, hshared]
  simpa using ha

/-! ### The encoding that each mask of the table gives -/

section
variable {constraint : Txn → Prop} {i : Txn → Instr}

/-- Mask 0x10080, match with bit 7 clear: any offset of any window. -/
theorem normalEncoding_window (wr : Bool)
    (hi : ∀ t, constraint t → decodeWindow wr (Txn.window t) (Txn.offset t) (Txn.data t) = i t) :
    NormalEncoding 0x10080 (mkTxn wr 0 0x00) constraint i := by
  intro p rst t hm hc
  obtain ⟨hwr, -, ha⟩ := (txn_matches_iff t true wr 0 0x80 0 0x00).mp hm
  rw [Bool.and_true] at hwr
  rw [decode, decodeNormal_of_window ha, hwr, hi t hc]

/-- Mask 0x1008F: one register of any window. -/
theorem normalEncoding_windowRegister (wr : Bool) (o : BitVec 4)
    (hi : ∀ t, constraint t → decodeWindow wr (Txn.window t) o (Txn.data t) = i t) :
    NormalEncoding 0x1008F (mkTxn wr 0 (o.setWidth 8)) constraint i := by
  intro p rst t hm hc
  obtain ⟨hwr, -, ha⟩ := (txn_matches_iff t true wr 0 0x8F 0 (o.setWidth 8)).mp hm
  obtain ⟨hwin, hoff⟩ := window_of_and_offset ha
  rw [Bool.and_true] at hwr
  rw [decode, decodeNormal_of_window hwin, hwr, Txn.offset, hoff, hi t hc]

/-- Mask 0x1FF8F: one opcode of the command register of any window. -/
theorem normalEncoding_windowCommand (d : Byte) :
    NormalEncoding 0x1FF8F (mkTxn true d 0x04) (fun _ => True) (fun t => decodeCommand (Txn.window t) d) := by
  intro p rst t hm _
  obtain ⟨hwr, hd, ha⟩ := (txn_matches_iff t true true 0xFF 0x8F d 0x04).mp hm
  obtain ⟨hwin, hoff⟩ := window_of_and_offset (o := 0x4) ha
  rw [Bool.and_true] at hwr
  rw [decode, decodeNormal_of_window hwin, hwr, Txn.offset, hoff, eq_of_and_wholeByte hd rfl]
  rfl

/-- Mask 0x10080, match with bit 7 set: any shared register. -/
theorem normalEncoding_shared (wr : Bool)
    (hi : ∀ t, Txn.addr t &&& 0x80 = 0x80 → constraint t →
      decodeShared wr (Txn.register t) (Txn.data t) = i t) :
    NormalEncoding 0x10080 (mkTxn wr 0 0x80) constraint i := by
  intro p rst t hm hc
  obtain ⟨hwr, -, ha⟩ := (txn_matches_iff t true wr 0 0x80 0 0x80).mp hm
  rw [Bool.and_true] at hwr
  rw [decode, decodeNormal_of_shared ha, hwr, hi t ha hc]

/-- Mask 0x100FF: one shared register. -/
theorem normalEncoding_sharedRegister (wr : Bool) (r : BitVec 7)
    (hi : ∀ t, constraint t → decodeShared wr r (Txn.data t) = i t) :
    NormalEncoding 0x100FF (mkTxn wr 0 (sharedAddr r)) constraint i := by
  intro p rst t hm hc
  obtain ⟨hwr, -, ha⟩ := (txn_matches_iff t true wr 0 0xFF 0 (sharedAddr r)).mp hm
  have haddr : Txn.addr t = sharedAddr r := eq_of_and_wholeByte ha rfl
  have ht : t = mkTxn wr (Txn.data t) (sharedAddr r) := by
    rw [← haddr, ← hwr, Bool.and_true, mkTxn_fields]
  calc decode p .normal rst t = decodeNormal (mkTxn wr (Txn.data t) (sharedAddr r)) := congrArg decodeNormal ht
    _ = decodeShared wr r (Txn.data t) := decodeNormal_sharedAddr ..
    _ = i t := hi t hc

/-- Mask 0x1FFFF: one opcode of the shared command register. -/
theorem normalEncoding_sharedCommand (d : Byte) :
    NormalEncoding 0x1FFFF (mkTxn true d 0xFF) (fun _ => True) (fun _ => decodeSharedCommand d) := by
  intro p rst t hm _
  rw [and_wholeMask] at hm
  rw [hm]
  exact decodeNormal_sharedAddr true d 0x7F

end

/-- Every write in a serving state of phase BOOT is ROME's (47_rom_emulator.md R335). -/
theorem decode_boot_write (p : Params) {rst : RomeState} {t : Txn} (hs : rst.serving = true)
    (hm : t &&& 0x10000 = 0x10000) : decode p .boot rst t = .romWr (Txn.addr t) (Txn.data t) := by
  obtain ⟨hwr, -, -⟩ := (txn_matches_iff t true true 0 0 0 0).mp hm
  rw [Bool.and_true] at hwr
  simp [decode, decodeBoot, hs, hwr]

end Sys2Proof

namespace Sys2Proof.Machine

/-! ### What the instructions do -/

theorem exec_rdIdxSelect (w : WinNo) (s : State) : exec (.rdIdxSelect w) s = .next (s.drive (s.window w).idx) := rfl

theorem exec_rdWinReserved (w : WinNo) (o : BitVec 4) (s : State) :
    exec (.rdWinReserved w o) s = .next (s.drive 0x00) := rfl

theorem exec_wrIdxSelect (w : WinNo) (d : Byte) (s : State) :
    exec (.wrIdxSelect w d) s = .next (s.setWindow w { s.window w with idx := d }).release := rfl

theorem exec_wrWinReserved (w : WinNo) (o : BitVec 4) (d : Byte) (s : State) :
    exec (.wrWinReserved w o d) s = .next s.release := rfl

theorem exec_cmdNop (w : WinNo) (s : State) : exec (.cmdNop w) s = .next s.release := rfl

theorem exec_cmdUnknown (w : WinNo) (d : Byte) (s : State) : exec (.cmdUnknown w d) s = .next s.release := rfl

theorem exec_scmdNop (s : State) : exec .scmdNop s = .next s.release := rfl

theorem exec_scmdUnknown (d : Byte) (s : State) : exec (.scmdUnknown d) s = .next s.release := rfl

theorem exec_wrSharedReserved (r : BitVec 7) (d : Byte) (s : State) :
    exec (.wrSharedReserved r d) s = .next s.release := rfl

theorem exec_romWr (a d : Byte) (s : State) : exec (.romWr a d) s = .next s.release := rfl

/-! ### The obligations -/

/-- Settles O13: the written byte is the window's index, and no other latch moves. -/
theorem idxSelectWriteSetsOneLatch : Obligations.IdxSelectWriteSetsOneLatch := by
  refine ⟨fun w d s => ⟨_, exec_wrIdxSelect w d s, ?idx, ?sel, fun v hv => ?other, rfl⟩,
    normalEncoding_windowRegister true 0x0 fun _ _ => rfl⟩
  case idx => rw [State.release_window, State.window_setWindow_same]
  case sel => rw [State.release_window, State.window_setWindow_same]
  case other => rw [State.release_window, State.window_setWindow_other s _ hv]

/-- Settles O11: both reads drive their byte, and nothing else changes. -/
theorem windowIndexAndReservedReads : Obligations.WindowIndexAndReservedReads := by
  refine ⟨fun w o s => ⟨exec_rdIdxSelect w s, exec_rdWinReserved w o s⟩, ?idxSelect, ?reserved⟩
  case idxSelect => exact normalEncoding_windowRegister false 0x0 fun _ _ => rfl
  case reserved => exact normalEncoding_window false fun t ho => decodeWindow_reserved false (Txn.data t) _ _ ho

/-- Settles O15: each of the seven writes only releases the data bus. -/
theorem writesWithoutEffect : Obligations.WritesWithoutEffect := by
  refine ⟨fun w o r a d s => ⟨exec_wrWinReserved w o d s, exec_cmdNop w s, exec_cmdUnknown w d s, exec_scmdNop s,
    exec_scmdUnknown d s, exec_wrSharedReserved r d s, exec_romWr a d s⟩, ?winReserved, ?cmdNop, ?cmdUnknown,
    ?scmdNop, ?scmdUnknown, ?sharedReserved, fun p rst t => decode_boot_write p⟩
  case winReserved => exact normalEncoding_window true fun t ho => decodeWindow_reserved true (Txn.data t) _ _ ho
  case cmdNop => exact normalEncoding_windowCommand 0x00
  case cmdUnknown => exact normalEncoding_windowRegister true 0x4 fun t hd => decodeCommand_unknown (Txn.window t) hd
  case scmdNop => exact normalEncoding_sharedCommand 0x00
  case scmdUnknown => exact normalEncoding_sharedRegister true 0x7F fun t hd => decodeSharedCommand_unknown hd
  case sharedReserved =>
    exact normalEncoding_shared true fun t h ha =>
      decodeShared_reserved true (Txn.data t) _ (sharedRecognised_register h ha)

end Sys2Proof.Machine
end

section
/-! PROOFS. `DATA_PORT` (42_ime_data_port.md): the auto-step of a cursor as its two rules give it, and the accesses as
their frames on the state, with the encodings. -/

open Sys2Proof Sys2Proof.Machine

namespace Sys2Proof.Machine

/-! ### The step rule -/

/-- The exact result of a forward step, the sum (42_ime_data_port.md R183). -/
theorem Cursor.exactStep_forward {c : Cursor} (h : Cursor.backward c = false) :
    Cursor.exactStep c = (c.current.toNat : Int) + c.step.toNat := by
  rw [Cursor.exactStep, h]; rfl

/-- The exact result of a backward step, the difference (42_ime_data_port.md R184). -/
theorem Cursor.exactStep_backward {c : Cursor} (h : Cursor.backward c = true) :
    Cursor.exactStep c = (c.current.toNat : Int) - c.step.toNat := by
  rw [Cursor.exactStep, h]; rfl

/-- The forward step is past the limit at or above it (42_ime_data_port.md R183). -/
theorem Cursor.pastLimit_forward {c : Cursor} (h : Cursor.backward c = false) :
    Cursor.pastLimit c = true ↔ c.limit.toNat ≤ c.current.toNat + c.step.toNat := by
  rw [Cursor.pastLimit, h, if_neg Bool.false_ne_true, decide_eq_true_iff, Cursor.exactStep_forward h]
  omega

/-- The backward step is past the limit below it, as a signed value (42_ime_data_port.md R184). -/
theorem Cursor.pastLimit_backward {c : Cursor} (h : Cursor.backward c = true) :
    Cursor.pastLimit c = true ↔ (c.current.toNat : Int) - c.step.toNat < c.limit.toNat := by
  rw [Cursor.pastLimit, h, if_pos rfl, decide_eq_true_iff, Cursor.exactStep_backward h]

/-- Where a step leaves a cursor, for what its direction takes as past the limit: at the default where it wraps, else at
the exact result modulo `2 ^ 24` (42_ime_data_port.md R183, R184). -/
theorem Cursor.stepped_current_toNat {c : Cursor} {past : Prop} [Decidable past]
    (hpast : Cursor.pastLimit c = true ↔ past) :
    (Cursor.stepped c).current.toNat
      = if c.flags &&& 0x04 ≠ 0 ∧ past then c.dflt.toNat else (Cursor.exactStep c % 0x1000000).toNat := by
  have hwraps : (Cursor.wrapOnLimit c && Cursor.pastLimit c) = true ↔ c.flags &&& 0x04 ≠ 0 ∧ past := by
    rw [Bool.and_eq_true, Cursor.wrapOnLimit_iff, hpast]
  rw [Cursor.stepped, apply_ite BitVec.toNat, BitVec.toNat_ofInt]
  exact if_congr hwraps rfl rfl

/-- Settles O20: the sum of a valid address and a step fits into 24 bits. -/
theorem forwardStepAddsOrWraps : Obligations.ForwardStepAddsOrWraps := by
  intro c hdir hvalid
  have hforward : Cursor.backward c = false :=
    Bool.eq_false_iff.mpr fun h => (Cursor.backward_iff c).mp h hdir
  refine ⟨rfl, ?_⟩
  rw [Cursor.stepped_current_toNat (Cursor.pastLimit_forward hforward), Cursor.exactStep_forward hforward]
  congr 1
  omega

/-- Settles O21: truncation adds `2 ^ 24` to a negative difference, and nothing to any other. -/
theorem backwardStepSubtractsOrWraps : Obligations.BackwardStepSubtractsOrWraps := by
  intro c hdir
  have hbackward : Cursor.backward c = true := (Cursor.backward_iff c).mpr hdir
  refine ⟨rfl, ?_⟩
  rw [Cursor.stepped_current_toNat (Cursor.pastLimit_backward hbackward), Cursor.exactStep_backward hbackward]
  congr 1
  split <;> omega

/-! ### What an access changes -/

/-- The auto-step changes the cursor file alone. -/
theorem State.autoStep_frame (s : State) (w : WinNo) : s.autoStep w = { s with cur := (s.autoStep w).cur } := by
  unfold State.autoStep; split <;> rfl

/-- A host write changes the arena, the snapshot of a running copy and the number of draws alone. -/
theorem State.hostArenaWrite_frame (s : State) (a : Nat) (v : Byte) :
    s.hostArenaWrite a v
      = { s with
          arena := (s.hostArenaWrite a v).arena
          dma := (s.hostArenaWrite a v).dma
          draws := (s.hostArenaWrite a v).draws } := by
  unfold State.hostArenaWrite; split <;> rfl

/-- The cursor that a window selects is the same after a host write. -/
theorem State.activeCursor_hostArenaWrite (s : State) (a : Nat) (v : Byte) (w : WinNo) :
    (s.hostArenaWrite a v).activeCursor w = s.activeCursor w := by
  rw [State.activeCursor_eq, State.activeCursor_eq, State.hostArenaWrite_window, State.hostArenaWrite_cursor]

/-! ### The obligations on the accesses -/

/-- Settles O17: a valid read steps the cursor file, an invalid one raises the error. -/
theorem dataPortReadServesOrSignals : Obligations.DataPortReadServesOrSignals := by
  refine ⟨fun w s => ⟨fun hvalid => ?valid, fun hinvalid => ?invalid⟩,
    normalEncoding_windowRegister false 0x1 fun _ _ => rfl⟩
  case valid =>
    refine ⟨_, exec_rdDataPort_valid hvalid, rfl, ?active, fun j hj => ?others, ?frame⟩
    case active => rw [State.drive_cursor, State.autoStep_cursor_active, State.activeCursor_eq]
    case others => rw [State.drive_cursor, State.autoStep_cursor_other s w hj]
    case frame => rw [State.autoStep_frame]; rfl
  case invalid =>
    obtain ⟨hline, hcause, hmask, henable⟩ := Irq.setBits_spec s.irq causeMemoryError
    exact ⟨_, exec_rdDataPort_invalid hinvalid, rfl, rfl, hcause, hmask, henable, hline, rfl⟩

/-- Settles O18: a valid write stores at the unstepped address and then steps, an invalid one raises the error. -/
theorem dataPortWriteStoresOrSignals : Obligations.DataPortWriteStoresOrSignals := by
  refine ⟨fun w d s => ⟨fun hvalid => ?valid, fun hinvalid => ?invalid⟩,
    normalEncoding_windowRegister true 0x1 fun _ _ => rfl⟩
  case valid =>
    refine ⟨_, exec_wrDataPort_valid hvalid, ?stored, fun b hb => ?kept, ?active, fun j hj => ?others,
      fun hpending => ?copy, ?frame⟩
    case stored =>
      rw [State.release_arenaByte, State.autoStep_arenaByte, State.hostArenaWrite_arenaByte, if_pos rfl]
    case kept =>
      rw [State.release_arenaByte, State.autoStep_arenaByte, State.hostArenaWrite_arenaByte, if_neg hb]
    case active =>
      have hactive := State.autoStep_cursor_active (s.hostArenaWrite (s.cursor (s.window w).idx).current.toNat d) w
      rwa [State.hostArenaWrite_window, State.activeCursor_hostArenaWrite, State.activeCursor_eq] at hactive
    case others =>
      rw [State.release_cursor, State.autoStep_cursor_other _ w (by rwa [State.hostArenaWrite_window]),
        State.hostArenaWrite_cursor]
    case copy =>
      rw [State.release_dma, State.release_draws, State.autoStep_dma, State.autoStep_draws]
      exact (State.hostArenaWrite_dma s _ d).1 hpending
    case frame => rw [State.autoStep_frame, State.hostArenaWrite_frame]; rfl
  case invalid =>
    obtain ⟨hline, hcause, hmask, henable⟩ := Irq.setBits_spec s.irq causeMemoryError
    exact ⟨_, exec_wrDataPort_invalid hinvalid, rfl, hcause, hmask, henable, hline, rfl⟩

end Sys2Proof.Machine
end

section
/-! PROOFS. `CFG_DATA` (43_ime_config.md): the selectors that name nothing, and the accesses through them. -/

open Sys2Proof Sys2Proof.Machine

namespace Sys2Proof.Machine

/-! ### The byte that a selector names -/

/-- The selectors outside the table are those from 15 up (43_ime_config.md R214). -/
theorem cfgField_eq_nothing_iff (sel : Byte) : cfgField sel = .nothing ↔ 15 ≤ sel.toNat := by
  unfold cfgField
  split_ifs <;> simp only [false_iff, true_iff] <;> omega

theorem State.cfgRead_nothing (s : State) (i : CurNo) : s.cfgRead i .nothing = 0x00 := rfl

theorem State.cfgWrite_nothing (s : State) (i : CurNo) (d : Byte) : s.cfgWrite i d .nothing = s := rfl

/-! ### The accesses -/

theorem exec_rdCfgData (w : WinNo) (s : State) :
    exec (.rdCfgData w) s = .next (s.drive (s.cfgRead (s.window w).idx (cfgField (s.window w).sel))) := rfl

theorem exec_wrCfgData (w : WinNo) (d : Byte) (s : State) :
    exec (.wrCfgData w d) s = .next (s.cfgWrite (s.window w).idx d (cfgField (s.window w).sel)).release := rfl

/-- Settles O26: the selector names nothing, so the read drives zero and the write keeps the state. -/
theorem selectorOutOfRangeHasNoEffect : Obligations.SelectorOutOfRangeHasNoEffect := by
  intro w d s hsel
  have hnothing : cfgField (s.window w).sel = .nothing := (cfgField_eq_nothing_iff _).mpr hsel
  constructor
  case left => rw [exec_rdCfgData, hnothing, State.cfgRead_nothing, State.drive]
  case right => rw [exec_wrCfgData, hnothing, State.cfgWrite_nothing, State.release]

end Sys2Proof.Machine
end

section
/-! PROOFS. Commands (44_commands.md): the window commands that rewrite one field of the active cursor, the shared
command that rewrites every cursor, and the copy request as the queue's bound decides it. -/

open Sys2Proof Sys2Proof.Machine

namespace Sys2Proof.Machine

/-! ### What the operations behind the commands do -/

/-- The whole effect of a write cycle that replaces one record of the cursor file. -/
theorem State.setCursor_release_spec (s : State) (i : CurNo) (c : Cursor) :
    (s.setCursor i c).release.cursor i = c
      ∧ (∀ j, j ≠ i → (s.setCursor i c).release.cursor j = s.cursor j)
      ∧ (s.setCursor i c).release = { s with cur := (s.setCursor i c).release.cur, dataBus := none } := by
  refine ⟨?same, fun j hj => ?other, rfl⟩
  case same => rw [State.release_cursor, State.cursor_setCursor_same]
  case other => rw [State.release_cursor, State.cursor_setCursor_other s c hj]

/-- `try_add` where the queue has room (45_dma_icq.md R261). -/
theorem State.icqTryAdd_room {s : State} (e : CopyCmd) (h : s.icq.length < s.cfg.icqCapacity) :
    s.icqTryAdd e = { s with icq := s.icq ++ [e] } := if_pos h

/-- `try_add` on a full queue (45_dma_icq.md R261). -/
theorem State.icqTryAdd_full {s : State} (e : CopyCmd) (h : s.cfg.icqCapacity ≤ s.icq.length) :
    s.icqTryAdd e = s := if_neg (Nat.not_lt.mpr h)

/-! ### The commands -/

theorem exec_cmdResetIndex (w : WinNo) (s : State) :
    exec (.cmdResetIndex w) s
      = .next (s.setCursor (s.window w).idx
          { s.cursor (s.window w).idx with current := (s.cursor (s.window w).idx).dflt }).release := rfl

theorem exec_cmdSetDefaultToAddr (w : WinNo) (s : State) :
    exec (.cmdSetDefaultToAddr w) s
      = .next (s.setCursor (s.window w).idx
          { s.cursor (s.window w).idx with dflt := (s.cursor (s.window w).idx).current }).release := rfl

theorem exec_scmdResetAllIdx (s : State) :
    exec .scmdResetAllIdx s = .next (s.mapCursors fun c => { c with current := c.dflt }).release := rfl

theorem exec_scmdCopyBlock (s : State) : exec .scmdCopyBlock s = .next (s.icqTryAdd s.dmacfg).release := rfl

/-! ### The obligations -/

/-- Settles O28: each command replaces the active cursor's record alone, by one that differs in a single field. -/
theorem resetIndexAndSetDefault : Obligations.ResetIndexAndSetDefault := by
  refine ⟨fun w s => ⟨⟨_, exec_cmdResetIndex w s, ?resetIndex⟩, _, exec_cmdSetDefaultToAddr w s, ?setDefault⟩,
    ?resetIndexEncoding, ?setDefaultEncoding⟩
  case resetIndex => exact State.setCursor_release_spec s _ _
  case setDefault => exact State.setCursor_release_spec s _ _
  case resetIndexEncoding => exact normalEncoding_windowCommand 0x01
  case setDefaultEncoding => exact normalEncoding_windowCommand 0x02

/-- Settles O30: the command maps every record of the cursor file, and touches no other field. -/
theorem resetAllIndexesToDefaults : Obligations.ResetAllIndexesToDefaults := by
  refine ⟨fun s => ⟨_, exec_scmdResetAllIdx s, fun i => ?cursor, rfl⟩, normalEncoding_sharedCommand 0x01⟩
  case cursor => rw [State.release_cursor, State.cursor_mapCursors]

/-- Settles O33: the queue's bound decides whether the captured record is added. -/
theorem copyBlockQueuesOrDrops : Obligations.CopyBlockQueuesOrDrops := by
  refine ⟨fun s => ⟨fun hroom => ?room, fun hfull => ?full⟩, normalEncoding_sharedCommand 0x04⟩
  case room => rw [exec_scmdCopyBlock, State.icqTryAdd_room s.dmacfg hroom, State.release]
  case full => rw [exec_scmdCopyBlock, State.icqTryAdd_full s.dmacfg hfull, State.release]

end Sys2Proof.Machine
end

section
/-! PROOFS. The IRQ controller (46_irq_controller.md): the reads of the cause bytes and of the reserved shared addresses,
and the writes of the mask and of the enable, each as what it leaves of the controller and of the state. -/

open Sys2Proof Sys2Proof.Machine

namespace Sys2Proof.Machine

/-! ### What the operations behind the registers do -/

/-- The low byte of a 16-bit register replaced, with R304's masks (46_irq_controller.md). -/
theorem replaceByte_low (f : Half) (d : Byte) : replaceByte f 0 d = (f &&& 0xFF00) ||| d.setWidth 16 := by
  have hkept : ~~~(BitVec.ofNat 16 0xFF <<< (8 * 0)) = (0xFF00 : Half) := by decide
  rw [replaceByte, hkept, Nat.mul_zero, BitVec.shiftLeft_zero]

/-- The high byte of a 16-bit register replaced, with R305's masks (46_irq_controller.md). -/
theorem replaceByte_high (f : Half) (d : Byte) :
    replaceByte f 1 d = (f &&& (0x00FF : Half)) ||| ((d.setWidth 16 : Half) <<< 8) := by
  have hkept : ~~~(BitVec.ofNat 16 0xFF <<< (8 * 1)) = (0x00FF : Half) := by decide
  rw [replaceByte, hkept, Nat.mul_one]

/-- `set_mask` changes the mask and the line alone (46_irq_controller.md R304, R305). -/
theorem Irq.setMask_frame (q : Irq) (m : Half) :
    q.setMask m = { q with mask := m, line := (q.setMask m).pending } := rfl

/-- `set_enable` changes the enable and the line alone (46_irq_controller.md R307). -/
theorem Irq.setEnable_frame (q : Irq) (e : Bool) :
    q.setEnable e = { q with enable := e, line := (q.setEnable e).pending } := rfl

/-! ### The registers -/

theorem exec_rdIrqCauseLow (s : State) : exec .rdIrqCauseLow s = .next (s.drive (fieldByte s.irq.cause 0)) := rfl

theorem exec_rdIrqCauseHigh (s : State) : exec .rdIrqCauseHigh s = .next (s.drive (fieldByte s.irq.cause 1)) := rfl

theorem exec_rdSharedReserved (r : BitVec 7) (s : State) : exec (.rdSharedReserved r) s = .next (s.drive 0x00) := rfl

theorem exec_wrIrqMaskLow (d : Byte) (s : State) :
    exec (.wrIrqMaskLow d) s
      = .next ({ s with irq := s.irq.setMask (replaceByte s.irq.mask 0 d) } : State).release := rfl

theorem exec_wrIrqMaskHigh (d : Byte) (s : State) :
    exec (.wrIrqMaskHigh d) s
      = .next ({ s with irq := s.irq.setMask (replaceByte s.irq.mask 1 d) } : State).release := rfl

theorem exec_wrIrqEnable (d : Byte) (s : State) :
    exec (.wrIrqEnable d) s = .next ({ s with irq := s.irq.setEnable (decide (d ≠ 0)) } : State).release := rfl

/-! ### The obligations -/

/-- Settles O37: each read drives its byte of the cause, or zero, and changes nothing else. -/
theorem causeAndSharedReservedReads : Obligations.CauseAndSharedReservedReads := by
  refine ⟨fun r s => ⟨fieldByte s.irq.cause 0, fieldByte s.irq.cause 1, exec_rdIrqCauseLow s, exec_rdIrqCauseHigh s,
    fun j hj => ⟨?low, ?high⟩, exec_rdSharedReserved r s⟩, ?lowEncoding, ?highEncoding, ?reservedEncoding⟩
  case low => rw [fieldByte_getLsbD _ 0 j hj, Nat.mul_zero, Nat.zero_add]
  case high => rw [fieldByte_getLsbD _ 1 j hj, Nat.mul_one, Nat.add_comm]
  case lowEncoding => exact normalEncoding_sharedRegister false 0x71 fun _ _ => rfl
  case highEncoding => exact normalEncoding_sharedRegister false 0x72 fun _ _ => rfl
  case reservedEncoding =>
    exact normalEncoding_shared false fun t h ha =>
      decodeShared_reserved false (Txn.data t) _ (sharedRecognised_register h ha)

/-- Settles O40: the written mask is the old one with one byte replaced, the written enable is whether the byte is
nonzero, and either re-evaluates the line. -/
theorem maskAndEnableWrites : Obligations.MaskAndEnableWrites := by
  refine ⟨fun d s => ⟨?maskLow, ?maskHigh, ?enable⟩, ?maskLowEncoding, ?maskHighEncoding, ?enableEncoding⟩
  case maskLow =>
    exact ⟨_, exec_wrIrqMaskLow d s, replaceByte_low s.irq.mask d, Irq.setMask_frame s.irq _, rfl⟩
  case maskHigh =>
    exact ⟨_, exec_wrIrqMaskHigh d s, replaceByte_high s.irq.mask d, Irq.setMask_frame s.irq _, rfl⟩
  case enable => exact ⟨_, exec_wrIrqEnable d s, decide_eq_true_iff, Irq.setEnable_frame s.irq _, rfl⟩
  case maskLowEncoding => exact normalEncoding_sharedRegister true 0x73 fun _ _ => rfl
  case maskHighEncoding => exact normalEncoding_sharedRegister true 0x74 fun _ _ => rfl
  case enableEncoding => exact normalEncoding_sharedRegister true 0x75 fun _ _ => rfl

end Sys2Proof.Machine
end

section
/-! PROOFS. Decoding and encoding against each other (30_encoding.md R110 to R121, 47_rom_emulator.md R321, R324): each
register map is walked once, for what it decodes to and for the word that encodes it (`DecodesTo`). -/

open Sys2Proof Sys2Proof.Machine

namespace Sys2Proof

/-! ### From an instruction to its word and back -/

/-- Every well-formed instruction of phase NORMAL is the entry of a register map at the address that its word holds. -/
theorem decodeNormal_encode (p : Params) {rst : RomeState} {i : Instr} (hwf : i.wf p = true)
    (hin : i.decodesIn .normal rst = true) : decodeNormal (encode p i) = i := by
  cases i with
  | rdIdxSelect w => exact decodeNormal_windowAddr false 0 w 0x0
  | wrIdxSelect w d => exact decodeNormal_windowAddr true d w 0x0
  | rdDataPort w => exact decodeNormal_windowAddr false 0 w 0x1
  | wrDataPort w d => exact decodeNormal_windowAddr true d w 0x1
  | rdCfgFieldSelect w => exact decodeNormal_windowAddr false 0 w 0x2
  | wrCfgFieldSelect w d => exact decodeNormal_windowAddr true d w 0x2
  | rdCfgData w => exact decodeNormal_windowAddr false 0 w 0x3
  | wrCfgData w d => exact decodeNormal_windowAddr true d w 0x3
  | rdCommand w => exact decodeNormal_windowAddr false 0 w 0x4
  | cmdNop w => exact decodeNormal_windowAddr true 0x00 w 0x4
  | cmdResetIndex w => exact decodeNormal_windowAddr true 0x01 w 0x4
  | cmdSetDefaultToAddr w => exact decodeNormal_windowAddr true 0x02 w 0x4
  | cmdSetLimitToAddr w => exact decodeNormal_windowAddr true 0x03 w 0x4
  | cmdUnknown w d =>
    exact (decodeNormal_windowAddr true d w 0x4).trans (decodeCommand_unknown w (of_decide_eq_true hwf))
  | rdWinReserved w o =>
    exact (decodeNormal_windowAddr false 0 w o).trans (decodeWindow_reserved false 0 w o (of_decide_eq_true hwf))
  | wrWinReserved w o d =>
    exact (decodeNormal_windowAddr true d w o).trans (decodeWindow_reserved true d w o (of_decide_eq_true hwf))
  | rdDeviceStatus => exact decodeNormal_sharedAddr false 0 0x70
  | wrDeviceStatus d => exact decodeNormal_sharedAddr true d 0x70
  | rdIrqCauseLow => exact decodeNormal_sharedAddr false 0 0x71
  | wrIrqCauseLow d => exact decodeNormal_sharedAddr true d 0x71
  | rdIrqCauseHigh => exact decodeNormal_sharedAddr false 0 0x72
  | wrIrqCauseHigh d => exact decodeNormal_sharedAddr true d 0x72
  | rdIrqMaskLow => exact decodeNormal_sharedAddr false 0 0x73
  | wrIrqMaskLow d => exact decodeNormal_sharedAddr true d 0x73
  | rdIrqMaskHigh => exact decodeNormal_sharedAddr false 0 0x74
  | wrIrqMaskHigh d => exact decodeNormal_sharedAddr true d 0x74
  | rdIrqEnable => exact decodeNormal_sharedAddr false 0 0x75
  | wrIrqEnable d => exact decodeNormal_sharedAddr true d 0x75
  | rdSharedCommand => exact decodeNormal_sharedAddr false 0 0x7F
  | scmdNop => exact decodeNormal_sharedAddr true 0x00 0x7F
  | scmdResetAllIdx => exact decodeNormal_sharedAddr true 0x01 0x7F
  | scmdFactoryResetAllIdx => exact decodeNormal_sharedAddr true 0x02 0x7F
  | scmdClearIrq => exact decodeNormal_sharedAddr true 0x03 0x7F
  | scmdCopyBlock => exact decodeNormal_sharedAddr true 0x04 0x7F
  | scmdSystemReset => exact decodeNormal_sharedAddr true 0x05 0x7F
  | scmdUnknown d =>
    exact (decodeNormal_sharedAddr true d 0x7F).trans (decodeSharedCommand_unknown (of_decide_eq_true hwf))
  | rdSharedReserved r =>
    exact (decodeNormal_sharedAddr false 0 r).trans (decodeShared_reserved false 0 r ((Bool.not_eq_true' _).mp hwf))
  | wrSharedReserved r d =>
    exact (decodeNormal_sharedAddr true d r).trans (decodeShared_reserved true d r ((Bool.not_eq_true' _).mp hwf))
  | romRdVectorLo => cases hin
  | romRdVectorHi => cases hin
  | romRdKstatus => cases hin
  | romRdKdata => cases hin
  | romRdBootloader a => cases hin
  | romRdOther a => cases hin
  | romWr a d => cases hin
  | romCycleNotServing t => cases hin

/-- Outside the serving states every word is one instruction (47_rom_emulator.md R324, R336). -/
theorem decodeBoot_notServing (p : Params) {rst : RomeState} (hs : rst.serving = false) (t : Txn) :
    decodeBoot p rst t = .romCycleNotServing t := by
  simp [decodeBoot, hs]

/-- In a serving state a write is ROME's (47_rom_emulator.md R335). -/
theorem decodeBoot_write (p : Params) {rst : RomeState} (hs : rst.serving = true) (d a : Byte) :
    decodeBoot p rst (mkTxn true d a) = .romWr a d := by
  simp [decodeBoot, hs]

/-- The instruction that a read in a region of the ROME map is (47_rom_emulator.md R321). -/
def romeReadInstr (a : Byte) : RomeRegion → Instr
  | .vectorLo => .romRdVectorLo
  | .vectorHi => .romRdVectorHi
  | .kstatus => .romRdKstatus
  | .kdata => .romRdKdata
  | .bootloader => .romRdBootloader a
  | .filler => .romRdOther a

/-- In a serving state a read is decoded by the region of its address (47_rom_emulator.md R321). -/
theorem decodeBoot_read (p : Params) {rst : RomeState} (hs : rst.serving = true) (d a : Byte) :
    decodeBoot p rst (mkTxn false d a) = romeReadInstr a (romeRegion p a) := by
  cases h : romeRegion p a <;> simp [decodeBoot, hs, h, romeReadInstr]

/-- Every well-formed instruction of phase BOOT is the read of its region, the write, or the row outside the serving
states. -/
theorem decodeBoot_encode {p : Params} (hv : Params.valid p = true) {rst : RomeState} {i : Instr}
    (hwf : i.wf p = true) (hin : i.decodesIn .boot rst = true) : decodeBoot p rst (encode p i) = i := by
  obtain ⟨hlo, hhi, hks, hkd⟩ := romeRegion_of_valid hv
  cases i with
  | romRdVectorLo => rw [encode, decodeBoot_read p hin, hlo]; rfl
  | romRdVectorHi => rw [encode, decodeBoot_read p hin, hhi]; rfl
  | romRdKstatus => rw [encode, decodeBoot_read p hin, hks]; rfl
  | romRdKdata => rw [encode, decodeBoot_read p hin, hkd]; rfl
  | romRdBootloader a => rw [encode, decodeBoot_read p hin, of_decide_eq_true hwf]; rfl
  | romRdOther a => rw [encode, decodeBoot_read p hin, of_decide_eq_true hwf]; rfl
  | romWr a d => exact decodeBoot_write p hin d a
  | romCycleNotServing t => exact decodeBoot_notServing p ((Bool.not_eq_true' _).mp hin) t
  | _ => cases hin

/-- Settles O1: by the phase, for each row of the instruction set. -/
theorem decodeOfEncodeIsInstr : Obligations.DecodeOfEncodeIsInstr := by
  intro p ph rst i hv hwf hin
  cases ph with
  | normal => exact decodeNormal_encode p hwf hin
  | boot => exact decodeBoot_encode hv hwf hin

/-! ### From a word to its instruction and back -/

/-- The word that names what a word decodes to: the word itself, with the data bits of a served read at 0 (30_encoding.md
R110). -/
def canonicalWord (ph : Phase) (rst : RomeState) (t : Txn) : Txn :=
  if Txn.isWrite t = true ∨ (ph = .boot ∧ rst.serving = false) then t else mkTxn false 0 (Txn.addr t)

theorem canonicalWord_write (ph : Phase) (rst : RomeState) (d a : Byte) :
    canonicalWord ph rst (mkTxn true d a) = mkTxn true d a := by
  simp [canonicalWord]

theorem canonicalWord_read_normal (rst : RomeState) (d a : Byte) :
    canonicalWord .normal rst (mkTxn false d a) = mkTxn false 0 a := by
  simp [canonicalWord]

theorem canonicalWord_read_serving {rst : RomeState} (hs : rst.serving = true) (d a : Byte) :
    canonicalWord .boot rst (mkTxn false d a) = mkTxn false 0 a := by
  simp [canonicalWord, hs]

theorem canonicalWord_notServing {rst : RomeState} (hs : rst.serving = false) (t : Txn) :
    canonicalWord .boot rst t = t := by
  simp [canonicalWord, hs]

/-- What is asked of the instruction that a word decodes to: it meets its row's constraint, its row decodes in this phase
and ROME state, and it encodes to the canonical word. -/
structure DecodesTo (p : Params) (ph : Phase) (rst : RomeState) (t : Txn) (i : Instr) : Prop where
  wf : i.wf p = true
  decodesIn : i.decodesIn ph rst = true
  encode : encode p i = canonicalWord ph rst t

/-- A read of phase NORMAL. -/
theorem DecodesTo.read {p : Params} {rst : RomeState} {d a : Byte} {i : Instr} (hwf : i.wf p = true)
    (hin : i.decodesIn .normal rst = true) (he : Sys2Proof.encode p i = mkTxn false 0 a) :
    DecodesTo p .normal rst (mkTxn false d a) i :=
  ⟨hwf, hin, he.trans (canonicalWord_read_normal rst d a).symm⟩

/-- A write of phase NORMAL. -/
theorem DecodesTo.write {p : Params} {rst : RomeState} {d a : Byte} {i : Instr} (hwf : i.wf p = true)
    (hin : i.decodesIn .normal rst = true) (he : Sys2Proof.encode p i = mkTxn true d a) :
    DecodesTo p .normal rst (mkTxn true d a) i :=
  ⟨hwf, hin, he.trans (canonicalWord_write .normal rst d a).symm⟩

section
variable (p : Params) (rst : RomeState) (d : Byte)

/-- The opcodes of a window command (30_encoding.md R116). -/
theorem decodesTo_decodeCommand (w : WinNo) :
    DecodesTo p .normal rst (mkTxn true d (windowAddr w 0x4)) (decodeCommand w d) := by
  rcases decodeCommand_cases w d with ⟨rfl, h⟩ | ⟨rfl, h⟩ | ⟨rfl, h⟩ | ⟨rfl, h⟩ | ⟨hd, h⟩ <;> rw [h]
  case inr.inr.inr.inr => exact .write (decide_eq_true hd) rfl rfl
  all_goals exact .write rfl rfl rfl

/-- The opcodes of a shared command (30_encoding.md R116). -/
theorem decodesTo_decodeSharedCommand :
    DecodesTo p .normal rst (mkTxn true d 0xFF) (decodeSharedCommand d) := by
  rcases decodeSharedCommand_cases d with
    ⟨rfl, h⟩ | ⟨rfl, h⟩ | ⟨rfl, h⟩ | ⟨rfl, h⟩ | ⟨rfl, h⟩ | ⟨rfl, h⟩ | ⟨hd, h⟩ <;> rw [h]
  case inr.inr.inr.inr.inr.inr => exact .write (decide_eq_true hd) rfl rfl
  all_goals exact .write rfl rfl rfl

/-- The window register map (30_encoding.md R112). -/
theorem decodesTo_decodeWindow (wr : Bool) (w : WinNo) (o : BitVec 4) :
    DecodesTo p .normal rst (mkTxn wr d (windowAddr w o)) (decodeWindow wr w o d) := by
  rcases windowOffset_cases o with rfl | rfl | rfl | rfl | rfl | ho
  case inr.inr.inr.inr.inl =>
    cases wr
    · exact .read rfl rfl rfl
    · exact decodesTo_decodeCommand p rst d w
  case inr.inr.inr.inr.inr =>
    rw [decodeWindow_reserved wr d w o ho]
    cases wr
    · exact .read (decide_eq_true ho) rfl rfl
    · exact .write (decide_eq_true ho) rfl rfl
  all_goals
    cases wr
    · exact .read rfl rfl rfl
    · exact .write rfl rfl rfl

/-- The shared register map (30_encoding.md R113). -/
theorem decodesTo_decodeShared (wr : Bool) (r : BitVec 7) :
    DecodesTo p .normal rst (mkTxn wr d (sharedAddr r)) (decodeShared wr r d) := by
  rcases sharedRegister_cases r with rfl | rfl | rfl | rfl | rfl | rfl | rfl | hr
  case inr.inr.inr.inr.inr.inr.inl =>
    cases wr
    · exact .read rfl rfl rfl
    · exact decodesTo_decodeSharedCommand p rst d
  case inr.inr.inr.inr.inr.inr.inr =>
    have hwf : (!sharedRecognised r) = true := by rw [hr]; rfl
    rw [decodeShared_reserved wr d r hr]
    cases wr
    · exact .read hwf rfl rfl
    · exact .write hwf rfl rfl
  all_goals
    cases wr
    · exact .read rfl rfl rfl
    · exact .write rfl rfl rfl

/-- Phase NORMAL (30_encoding.md R111). -/
theorem decodesTo_decodeNormal (wr : Bool) (a : Byte) :
    DecodesTo p .normal rst (mkTxn wr d a) (decodeNormal (mkTxn wr d a)) := by
  rcases localAddr_cases a with ⟨w, o, rfl⟩ | ⟨r, rfl⟩
  · rw [decodeNormal_windowAddr]; exact decodesTo_decodeWindow p rst d wr w o
  · rw [decodeNormal_sharedAddr]; exact decodesTo_decodeShared p rst d wr r

/-- A read that ROME serves (47_rom_emulator.md R321). -/
theorem decodesTo_romeRead {rst : RomeState} (hs : rst.serving = true) (a : Byte) :
    DecodesTo p .boot rst (mkTxn false d a) (romeReadInstr a (romeRegion p a)) := by
  have canonical := canonicalWord_read_serving hs d a
  rcases romeRegion_cases p a with ⟨rfl, h⟩ | ⟨rfl, h⟩ | ⟨rfl, h⟩ | ⟨rfl, h⟩ | ⟨_, h⟩ | ⟨_, h⟩ <;> rw [h]
  case inr.inr.inr.inr.inl => exact ⟨decide_eq_true h, hs, canonical.symm⟩
  case inr.inr.inr.inr.inr => exact ⟨decide_eq_true h, hs, canonical.symm⟩
  all_goals exact ⟨rfl, hs, canonical.symm⟩

/-- Phase BOOT (47_rom_emulator.md R321, R324, R335). -/
theorem decodesTo_decodeBoot (wr : Bool) (a : Byte) :
    DecodesTo p .boot rst (mkTxn wr d a) (decodeBoot p rst (mkTxn wr d a)) := by
  cases hs : rst.serving with
  | false =>
    rw [decodeBoot_notServing p hs]
    exact ⟨rfl, (Bool.not_eq_true' _).mpr hs, (canonicalWord_notServing hs _).symm⟩
  | true =>
    cases wr with
    | false => rw [decodeBoot_read p hs]; exact decodesTo_romeRead p d hs a
    | true => rw [decodeBoot_write p hs]; exact ⟨rfl, hs, (canonicalWord_write .boot rst d a).symm⟩

end

/-- Every word decodes to a well-formed instruction of its phase, which encodes to the canonical word (30_encoding.md
R110, R121). -/
theorem decodesTo_decode (p : Params) (ph : Phase) (rst : RomeState) (t : Txn) :
    DecodesTo p ph rst t (decode p ph rst t) := by
  rw [← mkTxn_fields t]
  cases ph with
  | normal => exact decodesTo_decodeNormal p rst ..
  | boot => exact decodesTo_decodeBoot p rst ..

/-- Settles O3: a part of `decodesTo_decode`. -/
theorem decodedInstrIsWellFormed : Obligations.DecodedInstrIsWellFormed :=
  fun p ph rst t => ⟨(decodesTo_decode p ph rst t).wf, (decodesTo_decode p ph rst t).decodesIn⟩

/-- Settles O4: a part of `decodesTo_decode`. -/
theorem encodeOfDecodeIsCanonicalWord : Obligations.EncodeOfDecodeIsCanonicalWord :=
  fun p ph rst t => (decodesTo_decode p ph rst t).encode

/-- Settles O6: each word is evaluated by the decoder. -/
theorem specVectorsDecode : Obligations.SpecVectorsDecode :=
  ⟨rfl, rfl, rfl, rfl, rfl, rfl, rfl, rfl, rfl, rfl⟩

end Sys2Proof
end

section
/-! PROOFS. What an instruction and a step can do, said once (`exec_effect`, `step_effect`): the rules of the whole
machine are case analyses of these two. -/

open Sys2Proof Sys2Proof.Machine

namespace Sys2Proof.Machine

/-- What one instruction but `SYSTEM_RESET` does to the state. The effects that many instructions share name none; those
of them that ROME cannot have say so. -/
inductive InstrEffect (s : State) : Instr → State → Prop where
  /-- A read drives one byte. -/
  | drives (i : Instr) (v : Byte) : InstrEffect s i (s.drive v)
  /-- A read drives a free byte. -/
  | drivesDraw (i : Instr) : InstrEffect s i s.driveDraw
  /-- A write has no effect. -/
  | ignored (i : Instr) : InstrEffect s i s.release
  /-- A `DATA_PORT` access at an invalid address signals, and drives the bus in a read. -/
  | signalsRead (w : WinNo) : InstrEffect s (.rdDataPort w) ((s.raise causeMemoryError).drive 0x00)
  | signalsWrite (w : WinNo) (d : Byte) : InstrEffect s (.wrDataPort w d) (s.raise causeMemoryError).release
  | readsArena (w : WinNo) (h : (s.cursor (s.window w).idx).current.toNat < 0x40000) :
    InstrEffect s (.rdDataPort w) ((s.autoStep w).drive (s.arenaByte (s.cursor (s.window w).idx).current.toNat))
  | writesArena (w : WinNo) (d : Byte) (h : (s.cursor (s.window w).idx).current.toNat < 0x40000) :
    InstrEffect s (.wrDataPort w d)
      ((s.hostArenaWrite (s.cursor (s.window w).idx).current.toNat d).autoStep w).release
  | idxSelect (w : WinNo) (d : Byte) :
    InstrEffect s (.wrIdxSelect w d) (s.setWindow w { s.window w with idx := d }).release
  | fieldSelect (w : WinNo) (d : Byte) :
    InstrEffect s (.wrCfgFieldSelect w d) (s.setWindow w { s.window w with sel := d }).release
  | cfgData (w : WinNo) (d : Byte) :
    InstrEffect s (.wrCfgData w d) (s.cfgWrite (s.window w).idx d (cfgField (s.window w).sel)).release
  | resetIndex (w : WinNo) :
    InstrEffect s (.cmdResetIndex w) (s.setCursor (s.window w).idx
      { s.cursor (s.window w).idx with current := (s.cursor (s.window w).idx).dflt }).release
  /-- `SET_DEFAULT_TO_ADDR` and `SET_LIMIT_TO_ADDR` keep the cursor's address. -/
  | setsBound (i : Instr) (hi : ∀ rst, i.decodesIn .boot rst = false) (w : WinNo) (c : Cursor)
    (h : c.current = (s.cursor (s.window w).idx).current) :
    InstrEffect s i (s.setCursor (s.window w).idx c).release
  | resetAllIdx : InstrEffect s .scmdResetAllIdx (s.mapCursors fun c => { c with current := c.dflt }).release
  | factoryReset : InstrEffect s .scmdFactoryResetAllIdx
      (({ s with irq := s.irq.init s.cfg, cur := Params.cursorTable s.cfg } : State).memerrEvent .factoryReset).release
  /-- A write of the IRQ controller re-evaluates the line. -/
  | setsIrq (i : Instr) (hi : ∀ rst, i.decodesIn .boot rst = false) (q : Irq) (h : q.line = q.pending) :
    InstrEffect s i ({ s with irq := q } : State).release
  /-- The same by an event that `MEMERR_CLEAR_EVENTS` can name. -/
  | setsIrqByEvent (i : Instr) (hi : ∀ rst, i.decodesIn .boot rst = false) (q : Irq) (e : MemerrClearEvent)
    (h : q.line = q.pending) :
    InstrEffect s i (({ s with irq := q } : State).memerrEvent e).release
  | statusWrite (d : Byte) : InstrEffect s (.wrDeviceStatus d) (s.memerrEvent .deviceStatusWrite).release
  | copyBlock : InstrEffect s .scmdCopyBlock (s.icqTryAdd s.dmacfg).release
  | kernelStatus (v : Byte) (rst : RomeState)
    (h : rst = if s.rome.rst = .bootActive then (if s.cfg.kernelImage.length = 0 then .complete else .kernelLoading)
      else s.rome.rst) :
    InstrEffect s .romRdKstatus (({ s with rome := { s.rome with rst := rst } } : State).drive v)
  | kernelData (v : Byte) (rst : RomeState) (hk : s.rome.kptr.toNat < s.cfg.kernelImage.length)
    (h : rst = if (s.rome.kptr + 1).toNat = s.cfg.kernelImage.length then .complete else s.rome.rst) :
    InstrEffect s .romRdKdata
      (({ s with rome := { s.rome with kptr := s.rome.kptr + 1, rst := rst } } : State).drive v)

/-- Every instruction but `SYSTEM_RESET` has one of these effects. -/
theorem exec_effect {i : Instr} {s t : State} (h : exec i s = .next t) (hi : i ≠ .scmdSystemReset) :
    InstrEffect s i t := by
  suffices hs : ∃ u, exec i s = .next u ∧ InstrEffect s i u by
    obtain ⟨u, hu, heff⟩ := hs
    rw [h] at hu
    cases hu
    exact heff
  clear h
  cases i with
  | wrIdxSelect w d => exact ⟨_, rfl, .idxSelect w d⟩
  | rdDataPort w =>
    rcases Nat.lt_or_ge (s.cursor (s.window w).idx).current.toNat 0x40000 with hv | hv
    · exact ⟨_, exec_rdDataPort_valid hv, .readsArena w hv⟩
    · exact ⟨_, exec_rdDataPort_invalid hv, .signalsRead w⟩
  | wrDataPort w d =>
    rcases Nat.lt_or_ge (s.cursor (s.window w).idx).current.toNat 0x40000 with hv | hv
    · exact ⟨_, exec_wrDataPort_valid hv, .writesArena w d hv⟩
    · exact ⟨_, exec_wrDataPort_invalid hv, .signalsWrite w d⟩
  | wrCfgFieldSelect w d => exact ⟨_, rfl, .fieldSelect w d⟩
  | wrCfgData w d => exact ⟨_, rfl, .cfgData w d⟩
  | cmdResetIndex w => exact ⟨_, rfl, .resetIndex w⟩
  | cmdSetDefaultToAddr w => exact ⟨_, rfl, .setsBound _ (fun _ => rfl) w _ rfl⟩
  | cmdSetLimitToAddr w => exact ⟨_, rfl, .setsBound _ (fun _ => rfl) w _ rfl⟩
  | wrDeviceStatus d => exact ⟨_, rfl, .statusWrite d⟩
  | wrIrqCauseLow d =>
    cases hd : d.getLsbD 0
    · exact ⟨_, by rw [exec, execWrIrqCauseLow, hd]; rfl, .setsIrq _ (fun _ => rfl) (s.irq.clearCause (d.setWidth 16)) rfl⟩
    · exact ⟨_, by rw [exec, execWrIrqCauseLow, hd]; rfl,
        .setsIrqByEvent _ (fun _ => rfl) (s.irq.clearCause (d.setWidth 16)) .causeBitZeroCleared rfl⟩
  | wrIrqCauseHigh d => exact ⟨_, rfl, .setsIrq _ (fun _ => rfl) _ rfl⟩
  | wrIrqMaskLow d => exact ⟨_, rfl, .setsIrq _ (fun _ => rfl) _ rfl⟩
  | wrIrqMaskHigh d => exact ⟨_, rfl, .setsIrq _ (fun _ => rfl) _ rfl⟩
  | wrIrqEnable d => exact ⟨_, rfl, .setsIrq _ (fun _ => rfl) _ rfl⟩
  | scmdResetAllIdx => exact ⟨_, rfl, .resetAllIdx⟩
  | scmdFactoryResetAllIdx => exact ⟨_, rfl, .factoryReset⟩
  | scmdClearIrq => exact ⟨_, rfl, .setsIrqByEvent _ (fun _ => rfl) s.irq.clearAll .clearIrq rfl⟩
  | scmdCopyBlock => exact ⟨_, rfl, .copyBlock⟩
  | scmdSystemReset => exact absurd rfl hi
  | romRdKstatus => exact ⟨_, rfl, .kernelStatus _ _ rfl⟩
  | romRdKdata =>
    by_cases hk : s.rome.kptr.toNat < s.cfg.kernelImage.length
    · exact ⟨_, if_pos (decide_eq_true hk), .kernelData _ _ hk rfl⟩
    · exact ⟨_, if_neg fun hr => hk (of_decide_eq_true hr), .drivesDraw _⟩
  | romCycleNotServing t =>
    cases ht : t.getLsbD 16
    · exact ⟨_, by rw [exec, execRomCycleNotServing, ht]; rfl, .drivesDraw _⟩
    · exact ⟨_, by rw [exec, execRomCycleNotServing, ht]; rfl, .ignored _⟩
  | cmdNop | cmdUnknown | wrWinReserved | scmdNop | scmdUnknown | wrSharedReserved | romWr => exact ⟨_, rfl, .ignored _⟩
  | _ => exact ⟨_, rfl, .drives _ _⟩

/-- What one step does to the state, by the event it takes; either reset comes to the same (10_state.md R44). -/
inductive StepEffect (s : State) : State → Prop where
  /-- A disabled agent step, or a cycle that asks for no access of this core. -/
  | nothing : StepEffect s s.popEvent
  | reset (h : nextIsReset s) (inbox : List Event) (draws : Nat) :
    StepEffect s (State.powerOn s.cfg (s.epoch + 1) inbox draws)
  | lost (p : BusPins) (x : Txn) (he : s.nextEvent = .busCycle p true) (hn : s.phase = .normal) :
    StepEffect s (s.popEvent.overrunCycle x)
  | cycle {t : State} (x : Txn) (i : Instr) (hx : nextCycleIs s x) (hi : decode s.cfg s.phase s.rome.rst x = i)
    (hin : i.decodesIn s.phase s.rome.rst = true) (h : InstrEffect s.popEvent i t) : StepEffect s t
  | dispatchError (e : CopyCmd) (rest : List CopyCmd) (bits : Half) (he : s.nextEvent = .dispatch)
    (hq : s.icq = e :: rest) : StepEffect s (({ s.popEvent with icq := rest } : State).raise bits)
  | dispatchStart (e : CopyCmd) (rest : List CopyCmd) (he : s.nextEvent = .dispatch) (hq : s.icq = e :: rest)
    (hidle : s.dma.active = false) (hcount : 0 < e.count.toNat)
    (hsrc : (s.cursor e.srcIdx).current.toNat + e.count.toNat ≤ 0x40000)
    (hdst : (s.cursor e.dstIdx).current.toNat + e.count.toNat ≤ 0x40000) :
    StepEffect s (({ s.popEvent with icq := rest } : State).startCopy (s.cursor e.srcIdx).current
      (s.cursor e.dstIdx).current e.count)
  | transfer (k : Nat) (he : s.nextEvent = .transfer k) (hact : s.dma.active = true) (hk : k < s.dma.count.toNat)
    (hnew : k ∉ s.dma.done) : StepEffect s (s.popEvent.transferStep k)
  | complete (he : s.nextEvent = .complete) (hact : s.dma.active = true)
    (hall : ∀ k, k < s.dma.count.toNat → k ∈ s.dma.done) : StepEffect s s.popEvent.completeStep
  | extRaise (b : BitVec 12) (he : s.nextEvent = .extRaise b) : StepEffect s (s.popEvent.extRaiseStep b)
  | startBoot (he : s.nextEvent = .startBoot) (hph : s.phase = .boot) (hr : s.rome.rst = .inactive)
    (hst : s.rome.started = false) (hv : Params.valid s.cfg = true) : StepEffect s s.popEvent.startBootStep
  | releaseReset (he : s.nextEvent = .releaseReset) (hr : s.rome.rst = .resetSequence) :
    StepEffect s s.popEvent.releaseResetStep
  | handOff (he : s.nextEvent = .handOff) (hph : s.phase = .boot) (hr : s.rome.rst = .complete) :
    StepEffect s s.popEvent.handOffStep

/-- The event is taken with the bus released. -/
theorem State.release_popEvent (s : State) : s.popEvent.release = s.popEvent := by
  unfold State.popEvent; split <;> rfl

/-- A bus cycle as the effect of a step. -/
theorem busCycle_effect {s t : State} {p : BusPins} {overrun : Bool} (he : s.nextEvent = .busCycle p overrun)
    (h : busCycle p overrun s.popEvent = .next t) : StepEffect s t := by
  rcases busCycle_cases h with ⟨-, rfl⟩ | ⟨-, rfl⟩ | ⟨x, hdir, hx⟩
  · exact .nothing
  · rw [State.release_popEvent]; exact .nothing
  · simp only [State.popEvent_phase, State.popEvent_cfg, State.popEvent_rome] at hx
    rcases hx with ⟨hn, rfl, rfl⟩ | ⟨ho, hexec⟩
    · exact .lost p x he hn
    · have hcyc := nextCycleIs_of he ho hdir
      by_cases hi : decode s.cfg s.phase s.rome.rst x = .scmdSystemReset
      · rw [hi] at hexec
        cases hexec
        exact State.popEvent_cfg s ▸ State.popEvent_epoch s ▸ .reset (.inr ⟨x, hcyc, hi⟩) _ _
      · exact .cycle x _ hcyc rfl (decodesTo_decode _ _ _ _).decodesIn (exec_effect hexec hi)

/-- The dispatch of a queued command as the effect of a step. -/
theorem dispatch_effect {s : State} (he : s.nextEvent = .dispatch) (hq : 0 < s.icq.length) :
    StepEffect s s.popEvent.dispatchStep := by
  obtain ⟨e, rest, hicq⟩ := List.exists_cons_of_length_pos hq
  have hstep : s.popEvent.dispatchStep = ({ s.popEvent with icq := rest } : State).processCopy e := by
    simp [State.dispatchStep, hicq]
  have hcur : ∀ j, ({ s.popEvent with icq := rest } : State).cursor j = s.cursor j := s.popEvent_cursor
  rw [hstep]
  rcases State.processCopy_cases ({ s.popEvent with icq := rest } : State) e with
    ⟨-, h⟩ | ⟨-, -, h⟩ | ⟨-, hbounds, h⟩ <;> rw [h]
  · exact .dispatchError e rest _ he hicq
  · exact .dispatchError e rest _ he hicq
  · rw [hcur, hcur] at hbounds ⊢
    obtain ⟨hcount, hidle, hsrc, hdst⟩ := (copyBoundsValid_iff ..).mp hbounds
    exact .dispatchStart e rest he hicq (by simpa using hidle) hcount hsrc hdst

/-- Every step has one of these effects. -/
theorem step_effect {s t : State} (h : step s = .next t) : StepEffect s t := by
  rcases step_cases h with ⟨-, rfl⟩ | ⟨he, rfl⟩ | ⟨p, overrun, he, hc⟩ | ⟨he, hq, rfl⟩ | ⟨k, he, hact, hk, hnew, rfl⟩ |
    ⟨he, hact, hall, rfl⟩ | ⟨b, he, rfl⟩ | ⟨he, hph, hr, hst, hv, rfl⟩ | ⟨he, hr, rfl⟩ | ⟨he, hph, hr, rfl⟩
  · exact .nothing
  · rw [State.powerOnReset, State.popEvent_cfg, State.popEvent_epoch]
    exact .reset (.inl he) _ _
  · exact busCycle_effect he hc
  · exact dispatch_effect he hq
  · exact .transfer k he hact hk hnew
  · exact .complete he hact hall
  · exact .extRaise b he
  · exact .startBoot he hph hr hst hv
  · exact .releaseReset he hr
  · exact .handOff he hph hr

end Sys2Proof.Machine
end

section
/-! PROOFS. The invariant of every reachable state (10_state.md R46): the part about a copy in flight and the part about
ROME's sequencer are stated on their own records, so that each effect of `StepEffect` is judged on the fields it writes. -/

open Sys2Proof Sys2Proof.Machine

namespace Sys2Proof.Machine

/-! ### The invariant by its parts -/

/-- The part of the invariant about the copy (45_dma_icq.md R265, R267), with the status bit that mirrors it. -/
structure CopyInv (status : Bool) (m : Dma) : Prop where
  mirrors : status = m.active
  inRange : m.active = true →
    0 < m.count.toNat ∧ m.src.toNat + m.count.toNat ≤ Config.arenaSize
      ∧ m.dst.toNat + m.count.toNat ≤ Config.arenaSize ∧ m.snap.length = m.count.toNat
  doneWf : m.active = true → Dma.doneWf m

/-- The part of the invariant about ROME (47_rom_emulator.md sections 1 to 3). -/
structure RomeInv (p : Params) (ph : Phase) (r : Rome) : Prop where
  normal : ph = .normal → r.rst = .inactive ∧ r.started = true
  boot : ph = .boot → (r.rst = .inactive ↔ r.started = false)
  startedValid : r.started = true → Params.valid p = true
  kptrBounded : r.kptr.toNat ≤ p.kernelImage.length
  notServing : ph = .boot → r.rst.serving = false → r.kptr = 0
  complete : r.rst = .complete → r.kptr.toNat = p.kernelImage.length
  loading : r.rst = .bootActive ∨ r.rst = .kernelLoading →
    r.kptr.toNat < p.kernelImage.length ∨ p.kernelImage.length = 0

/-- The invariant is its parts. -/
theorem inv_iff (s : State) :
    Inv s ↔ s.arena.wf = true ∧ s.irq.line = s.irq.pending ∧ s.icq.length ≤ s.cfg.icqCapacity ∧ s.st.idxovf = false
      ∧ CopyInv s.st.dmaActive s.dma ∧ RomeInv s.cfg s.phase s.rome := by
  constructor
  · intro h
    exact ⟨h.arenaWf, h.lineFollows, h.icqBounded, h.idxovfClear, ⟨h.dmaStatus, h.copyInRange, h.copyDone⟩,
      ⟨h.normalRome, h.bootRome, h.startedValid, h.kptrBounded, h.notServingKptr, h.completeKptr, h.loadingKptr⟩⟩
  · rintro ⟨harena, hline, hicq, hovf, hcopy, hrome⟩
    exact ⟨harena, hline, hicq, hcopy.mirrors, hrome.normal, hrome.boot, hovf, hcopy.inRange, hcopy.doneWf,
      hrome.startedValid, hrome.kptrBounded, hrome.notServing, hrome.complete, hrome.loading⟩

/-! ### The copy -/

/-- No copy is in flight after a reset. -/
theorem CopyInv.resetDma : CopyInv false resetDma := ⟨rfl, nofun, nofun⟩

/-- A host write keeps all of the copy but bytes of the snapshot (45_dma_icq.md R268). -/
theorem CopyInv.hostArenaWrite {s : State} (h : CopyInv s.st.dmaActive s.dma) (a : Nat) (v : Byte) :
    CopyInv s.st.dmaActive (s.hostArenaWrite a v).dma := by
  obtain ⟨hframe, hlength⟩ := State.hostArenaWrite_dma_frame s a v
  rw [hframe]
  exact ⟨h.mirrors, fun hact => by simpa only [hlength] using h.inRange hact, h.doneWf⟩

/-- A copy starts with its preconditions met (45_dma_icq.md R265, R267). -/
theorem CopyInv.startCopy (s : State) {src dst : Addr} {n : Half} (hn : 0 < n.toNat) (hsrc : src.toNat + n.toNat ≤ 0x40000)
    (hdst : dst.toNat + n.toNat ≤ 0x40000) : CopyInv true (s.startCopy src dst n).dma := by
  rw [State.startCopy_dma]
  exact ⟨rfl, fun _ => ⟨hn, hsrc, hdst, by simp⟩, fun _ => ⟨.nil, nofun⟩⟩

/-- A transfer adds an offset of the copy (45_dma_icq.md R268). -/
theorem CopyInv.transferStep {s : State} (h : CopyInv s.st.dmaActive s.dma) {k : Nat} (hk : k < s.dma.count.toNat) :
    CopyInv s.st.dmaActive (s.transferStep k).dma := by
  refine ⟨h.mirrors, h.inRange, fun hact => ⟨insertOffset_pairwise k (h.doneWf hact).1, fun j hj => ?_⟩⟩
  rcases (mem_insertOffset k j _).mp hj with rfl | hj
  · exact hk
  · exact (h.doneWf hact).2 j hj

/-! ### ROME -/

/-- ROME after a reset (10_state.md R44). -/
theorem RomeInv.resetRome (p : Params) : RomeInv p .boot resetRome :=
  ⟨nofun, fun _ => by simp [Machine.resetRome], nofun, Nat.zero_le _, fun _ _ => rfl, nofun, by simp [Machine.resetRome]⟩

/-- While ROME serves it has started, so the configuration is one that the spec admits. -/
theorem RomeInv.valid_of_serving {p : Params} {r : Rome} (h : RomeInv p .boot r) (hs : r.rst.serving = true) :
    Params.valid p = true := by
  refine h.startedValid (Bool.eq_true_of_not_eq_false fun hst => ?_)
  rw [(h.boot rfl).mpr hst] at hs
  cases hs

/-- ROME in a state that serves: what is left of the invariant. -/
theorem RomeInv.of_serving {p : Params} {r : Rome} (hs : r.rst.serving = true) (hst : r.started = true)
    (hv : Params.valid p = true) (hk : r.kptr.toNat ≤ p.kernelImage.length)
    (hcomplete : r.rst = .complete → r.kptr.toNat = p.kernelImage.length)
    (hloading : r.rst = .bootActive ∨ r.rst = .kernelLoading →
      r.kptr.toNat < p.kernelImage.length ∨ p.kernelImage.length = 0) : RomeInv p .boot r := by
  refine ⟨nofun, fun _ => ?_, fun _ => hv, hk, fun _ hns => ?_, hcomplete, hloading⟩
  · constructor
    · intro hr; rw [hr] at hs; cases hs
    · intro hf; rw [hst] at hf; cases hf
  · rw [hs] at hns; cases hns

/-- In phase BOOT a serving ROME has started. -/
theorem RomeInv.started_of_serving {p : Params} {r : Rome} (h : RomeInv p .boot r) (hs : r.rst.serving = true) :
    r.started = true := by
  refine Bool.eq_true_of_not_eq_false fun hst => ?_
  rw [(h.boot rfl).mpr hst] at hs
  cases hs

/-- The kernel-status read (47_rom_emulator.md R326, R333). -/
theorem RomeInv.kernelStatus {p : Params} {r : Rome} (h : RomeInv p .boot r) (hs : r.rst.serving = true)
    {rst : RomeState} (hrst : rst = if r.rst = .bootActive then (if p.kernelImage.length = 0 then .complete
      else .kernelLoading) else r.rst) : RomeInv p .boot { r with rst := rst } := by
  by_cases hb : r.rst = .bootActive
  · have hst := h.started_of_serving hs
    have hv := h.valid_of_serving hs
    have hk := h.kptrBounded
    have hload := h.loading (.inl hb)
    rw [if_pos hb] at hrst
    by_cases h0 : p.kernelImage.length = 0
    · rw [if_pos h0] at hrst; subst hrst
      exact .of_serving rfl hst hv hk (fun _ => by dsimp only; omega) (by simp)
    · rw [if_neg h0] at hrst; subst hrst
      exact .of_serving rfl hst hv hk nofun (fun _ => hload)
  · rw [if_neg hb] at hrst; subst hrst; exact h

/-- The kernel-data read while bytes remain (47_rom_emulator.md R334): a kernel of at most 65535 bytes keeps the pointer from
wrapping. -/
theorem RomeInv.kernelData {p : Params} {r : Rome} (h : RomeInv p .boot r) (hs : r.rst.serving = true)
    (hk : r.kptr.toNat < p.kernelImage.length) {rst : RomeState}
    (hrst : rst = if (r.kptr + 1).toNat = p.kernelImage.length then .complete else r.rst) :
    RomeInv p .boot { r with kptr := r.kptr + 1, rst := rst } := by
  have hst := h.started_of_serving hs
  have hv := h.valid_of_serving hs
  have hlength : p.kernelImage.length ≤ 65535 := by
    simp only [Params.valid, Bool.and_eq_true, decide_eq_true_eq] at hv
    exact hv.1.1.1.2
  have hnext : (r.kptr + 1).toNat = r.kptr.toNat + 1 := by
    rw [BitVec.toNat_add]; exact Nat.mod_eq_of_lt (by simp; omega)
  have hcomplete := h.complete
  by_cases hlast : (r.kptr + 1).toNat = p.kernelImage.length
  · rw [if_pos hlast] at hrst; subst hrst
    exact .of_serving rfl hst hv hlast.le (fun _ => hlast) (by simp)
  · rw [if_neg hlast] at hrst; subst hrst
    refine .of_serving hs hst hv (by dsimp only; omega) (fun hc => ?_) (fun _ => .inl (by dsimp only; omega))
    exact absurd (hcomplete hc) (by omega)

theorem RomeInv.startBoot {p : Params} {r : Rome} (h : RomeInv p .boot r) (hr : r.rst = .inactive)
    (hv : Params.valid p = true) : RomeInv p .boot { r with rst := .resetSequence, started := true } :=
  ⟨nofun, fun _ => by simp, fun _ => hv, h.kptrBounded, fun _ _ => h.notServing rfl (by rw [hr]; rfl), nofun, by simp⟩

/-- `ReleaseReset` happens in phase BOOT alone, with nothing streamed (47_rom_emulator.md R323). -/
theorem RomeInv.releaseReset {p : Params} {ph : Phase} {r : Rome} (h : RomeInv p ph r) (hr : r.rst = .resetSequence) :
    RomeInv p ph { r with rst := .bootActive } := by
  cases ph with
  | normal => rw [(h.normal rfl).1] at hr; cases hr
  | boot =>
    have hst : r.started = true := Bool.eq_true_of_not_eq_false fun hf => by
      rw [(h.boot rfl).mpr hf] at hr; cases hr
    have hk : r.kptr = 0 := h.notServing rfl (by rw [hr]; rfl)
    exact .of_serving rfl hst (h.startedValid hst) h.kptrBounded nofun
      (fun _ => by rw [hk]; exact (Nat.eq_zero_or_pos _).symm)

theorem RomeInv.handOff {p : Params} {r : Rome} (h : RomeInv p .boot r) (hr : r.rst = .complete) :
    RomeInv p .normal { r with rst := .inactive } := by
  have hst := h.started_of_serving (by rw [hr]; rfl)
  exact ⟨fun _ => ⟨rfl, hst⟩, nofun, h.startedValid, h.kptrBounded, nofun, nofun, by simp⟩

/-! ### The effects keep the invariant -/

/-- A reset leaves the invariant, in any configuration. -/
theorem inv_powerOn (p : Params) (epoch : Nat) (inbox : List Event) (draws : Nat) :
    Inv (State.powerOn p epoch inbox draws) :=
  (inv_iff _).mpr ⟨rfl, by simp [State.powerOn, resetIrq, Irq.pending], Nat.zero_le _, rfl, .resetDma, .resetRome p⟩

/-- The invariant speaks of no cursor, window, output, bus or draw. -/
theorem Inv.congr {s t : State} (h : Inv s) (hcfg : t.cfg = s.cfg) (hphase : t.phase = s.phase)
    (harena : t.arena = s.arena) (hst : t.st = s.st) (hirq : t.irq = s.irq) (hicq : t.icq = s.icq)
    (hdma : t.dma = s.dma) (hrome : t.rome = s.rome) : Inv t := by
  rw [inv_iff] at h ⊢
  rwa [hcfg, hphase, harena, hst, hirq, hicq, hdma, hrome]

/-- Taking an event keeps the invariant. -/
theorem Inv.popEvent {s : State} (h : Inv s) : Inv s.popEvent :=
  h.congr (by simp) (by simp) (by simp) (by simp) (by simp) (by simp) (by simp) (by simp)

/-- A signalled error keeps the invariant: the line is re-evaluated, and the status bits of the invariant stay. -/
theorem Inv.raise {s : State} (h : Inv s) (bits : Half) : Inv (s.raise bits) := by
  rw [inv_iff] at h ⊢
  obtain ⟨harena, -, hicq, hovf, hcopy, hrome⟩ := h
  exact ⟨harena, rfl, hicq, hovf, hcopy, hrome⟩

/-- Clearing MEMORY_ERROR keeps the invariant. -/
theorem Inv.memerrEvent {s : State} (h : Inv s) (e : MemerrClearEvent) : Inv (s.memerrEvent e) := by
  rw [inv_iff] at h ⊢
  simpa [State.memerrEvent_st] using h

/-- An IRQ controller whose line follows keeps the invariant. -/
theorem Inv.setIrq {s : State} (h : Inv s) {q : Irq} (hq : q.line = q.pending) : Inv { s with irq := q } := by
  rw [inv_iff] at h ⊢
  obtain ⟨harena, -, hrest⟩ := h
  exact ⟨harena, hq, hrest⟩

theorem Inv.hostArenaWrite {s : State} (h : Inv s) {a : Nat} (v : Byte) (ha : a < 0x40000) :
    Inv (s.hostArenaWrite a v) := by
  rw [inv_iff] at h ⊢
  obtain ⟨harena, hline, hicq, hovf, hcopy, hrome⟩ := h
  simp only [State.hostArenaWrite_arena, State.hostArenaWrite_irq, State.hostArenaWrite_icq, State.hostArenaWrite_cfg,
    State.hostArenaWrite_st, State.hostArenaWrite_phase, State.hostArenaWrite_rome]
  exact ⟨Memory.wf_write v harena ha, hline, hicq, hovf, hcopy.hostArenaWrite a v, hrome⟩

/-- The queue takes a record only where it has room (45_dma_icq.md R261). -/
theorem Inv.icqTryAdd {s : State} (h : Inv s) (e : CopyCmd) : Inv (s.icqTryAdd e) := by
  rcases Nat.lt_or_ge s.icq.length s.cfg.icqCapacity with hroom | hfull
  · rw [inv_iff] at h ⊢
    obtain ⟨harena, hline, -, hrest⟩ := h
    rw [State.icqTryAdd_room e hroom]
    exact ⟨harena, hline, by simpa using hroom, hrest⟩
  · rwa [State.icqTryAdd_full e hfull]

/-- Removing the oldest record keeps the invariant. -/
theorem Inv.popIcq {s : State} (h : Inv s) {e : CopyCmd} {rest : List CopyCmd} (hq : s.icq = e :: rest) :
    Inv { s with icq := rest } := by
  rw [inv_iff] at h ⊢
  obtain ⟨harena, hline, hicq, hrest⟩ := h
  rw [hq] at hicq
  exact ⟨harena, hline, (Nat.le_succ _).trans hicq, hrest⟩

/-- A change of ROME's record, with the phase that it keeps or sets. -/
theorem Inv.setRome {s t : State} (h : Inv s) (hcfg : t.cfg = s.cfg) (harena : t.arena = s.arena) (hst : t.st = s.st)
    (hirq : t.irq = s.irq) (hicq : t.icq = s.icq) (hdma : t.dma = s.dma)
    (hrome : RomeInv s.cfg s.phase s.rome → RomeInv s.cfg t.phase t.rome) : Inv t := by
  rw [inv_iff] at h ⊢
  obtain ⟨ha, hl, hi, ho, hc, hr⟩ := h
  rw [hcfg, harena, hst, hirq, hicq, hdma]
  exact ⟨ha, hl, hi, ho, hc, hrome hr⟩

/-- Every effect of an instruction keeps the invariant. -/
theorem InstrEffect.keepsInv {s t : State} {i : Instr} (h : InstrEffect s i t)
    (hin : i.decodesIn s.phase s.rome.rst = true) (hs : Inv s) : Inv t := by
  have same : ∀ {u : State}, Inv u → ∀ v : Byte, Inv (u.drive v) ∧ Inv u.release := fun hu _ =>
    ⟨hu.congr rfl rfl rfl rfl rfl rfl rfl rfl, hu.congr rfl rfl rfl rfl rfl rfl rfl rfl⟩
  cases h with
  | signalsRead w => exact (same (hs.raise _) _).1
  | signalsWrite w d => exact (same (hs.raise _) 0).2
  | readsArena w hv =>
    exact hs.congr (by simp) (by simp) (by simp) (by simp) (by simp) (by simp) (by simp) (by simp)
  | writesArena w d hv =>
    exact (hs.hostArenaWrite d hv).congr (by simp) (by simp) (by simp) (by simp) (by simp) (by simp) (by simp) (by simp)
  | cfgData w d => exact hs.congr (by simp) (by simp) (by simp) (by simp) (by simp) (by simp) (by simp) (by simp)
  | factoryReset =>
    have hreset : Inv { s with irq := s.irq.init s.cfg, cur := Params.cursorTable s.cfg } :=
      (hs.setIrq (q := s.irq.init s.cfg) rfl).congr rfl rfl rfl rfl rfl rfl rfl rfl
    exact (same (hreset.memerrEvent _) 0).2
  | setsIrq i hi q hq => exact (same (hs.setIrq hq) 0).2
  | setsIrqByEvent i hi q e hq => exact (same ((hs.setIrq hq).memerrEvent e) 0).2
  | statusWrite d => exact (same (hs.memerrEvent _) 0).2
  | copyBlock => exact (same (hs.icqTryAdd _) 0).2
  | kernelStatus v rst hrst =>
    simp only [Instr.decodesIn, Bool.and_eq_true, decide_eq_true_eq] at hin
    obtain ⟨hph, hserving⟩ := hin
    exact hs.setRome rfl rfl rfl rfl rfl rfl fun hr => by
      rw [hph] at hr; exact hph.symm ▸ hr.kernelStatus hserving hrst
  | kernelData v rst hk hrst =>
    simp only [Instr.decodesIn, Bool.and_eq_true, decide_eq_true_eq] at hin
    obtain ⟨hph, hserving⟩ := hin
    exact hs.setRome rfl rfl rfl rfl rfl rfl fun hr => by
      rw [hph] at hr; exact hph.symm ▸ hr.kernelData hserving hk hrst
  | _ => exact hs.congr rfl rfl rfl rfl rfl rfl rfl rfl

/-- A lost cycle signals and drives at most the bus (40_bus_frontend.md R146). -/
theorem Inv.overrunCycle {s : State} (h : Inv s) (x : Txn) : Inv (s.overrunCycle x) := by
  unfold State.overrunCycle
  split <;> exact (h.raise _).congr rfl rfl rfl rfl rfl rfl rfl rfl

theorem Inv.transferStep {s : State} (h : Inv s) {k : Nat} (hact : s.dma.active = true) (hk : k < s.dma.count.toNat) :
    Inv (s.transferStep k) := by
  rw [inv_iff] at h ⊢
  obtain ⟨harena, hline, hicq, hovf, hcopy, hrome⟩ := h
  have hdst : s.dma.dst.toNat + s.dma.count.toNat ≤ Config.arenaSize := (hcopy.inRange hact).2.2.1
  exact ⟨Memory.wf_write _ harena (by omega), hline, hicq, hovf, hcopy.transferStep hk, hrome⟩

theorem Inv.startCopy {s : State} (h : Inv s) {src dst : Addr} {n : Half} (hn : 0 < n.toNat)
    (hsrc : src.toNat + n.toNat ≤ 0x40000) (hdst : dst.toNat + n.toNat ≤ 0x40000) : Inv (s.startCopy src dst n) := by
  rw [inv_iff] at h ⊢
  obtain ⟨harena, hline, hicq, hovf, -, hrome⟩ := h
  exact ⟨harena, hline, hicq, hovf, .startCopy s hn hsrc hdst, hrome⟩

theorem Inv.completeStep {s : State} (h : Inv s) : Inv s.completeStep := by
  rw [inv_iff] at h ⊢
  obtain ⟨harena, -, hicq, hovf, -, hrome⟩ := h
  exact ⟨harena, rfl, hicq, hovf, ⟨rfl, nofun, nofun⟩, hrome⟩

/-- Settles O54: the reset state is a power-on state. -/
theorem resetMeetsInv : Obligations.ResetMeetsInv := inv_powerOn ..

/-- Settles O55: by the effect of the step, on the state with its event taken. -/
theorem everyStepKeepsInv : Obligations.EveryStepKeepsInv := by
  intro s t hs hstep
  have hpop : Inv s.popEvent := hs.popEvent
  cases step_effect hstep with
  | nothing => exact hpop
  | reset => exact inv_powerOn ..
  | lost p x => exact hpop.overrunCycle x
  | cycle x i hx hi hin h => exact h.keepsInv (by simpa using hin) hpop
  | dispatchError e rest bits he hq => exact (hpop.popIcq (by simpa using hq)).raise bits
  | dispatchStart e rest he hq hidle hcount hsrc hdst =>
    exact (hpop.popIcq (by simpa using hq)).startCopy hcount hsrc hdst
  | transfer k he hact hk => exact hpop.transferStep (by simpa using hact) (by simpa using hk)
  | complete => exact hpop.completeStep
  | extRaise b => exact hpop.setIrq rfl
  | startBoot he hph hr hst hv =>
    exact hpop.setRome rfl rfl rfl rfl rfl rfl fun hrome => by
      simp only [State.popEvent_cfg, State.popEvent_phase, State.popEvent_rome, State.startBootStep_phase,
        State.startBootStep_rome, hph] at hrome ⊢
      exact hrome.startBoot hr hv
  | releaseReset he hr =>
    exact hpop.setRome rfl rfl rfl rfl rfl rfl fun hrome => hrome.releaseReset (by simpa using hr)
  | handOff he hph hr =>
    exact hpop.setRome rfl rfl rfl rfl rfl rfl fun hrome => by
      simp only [State.popEvent_cfg, State.popEvent_phase, State.popEvent_rome, State.handOffStep_phase,
        State.handOffStep_rome, hph] at hrome ⊢
      exact hrome.handOff hr

end Sys2Proof.Machine
end

section
/-! PROOFS. The rules of the whole machine: who may write what (10_state.md R46), what persists (decisions D11, D14, D23,
D29), and fairness (45_dma_icq.md R263). Each is a case analysis of `StepEffect`, with the field in question read off
`InstrEffect` for the cycles. -/

open Sys2Proof Sys2Proof.Machine

namespace Sys2Proof.Machine

/-! ### What a reset and a lost cycle leave -/

@[simp] theorem State.powerOn_cfg (p : Params) (n : Nat) (l : List Event) (d : Nat) : (State.powerOn p n l d).cfg = p := rfl

@[simp] theorem State.overrunCycle_cfg (s : State) (x : Txn) : (s.overrunCycle x).cfg = s.cfg := by
  unfold State.overrunCycle; split <;> rfl
@[simp] theorem State.overrunCycle_phase (s : State) (x : Txn) : (s.overrunCycle x).phase = s.phase := by
  unfold State.overrunCycle; split <;> rfl
@[simp] theorem State.overrunCycle_cur (s : State) (x : Txn) : (s.overrunCycle x).cur = s.cur := by
  unfold State.overrunCycle; split <;> rfl
@[simp] theorem State.overrunCycle_win (s : State) (x : Txn) : (s.overrunCycle x).win = s.win := by
  unfold State.overrunCycle; split <;> rfl
@[simp] theorem State.overrunCycle_arena (s : State) (x : Txn) : (s.overrunCycle x).arena = s.arena := by
  unfold State.overrunCycle; split <;> rfl
@[simp] theorem State.overrunCycle_epoch (s : State) (x : Txn) : (s.overrunCycle x).epoch = s.epoch := by
  unfold State.overrunCycle; split <;> rfl
@[simp] theorem State.overrunCycle_st (s : State) (x : Txn) : (s.overrunCycle x).st = { s.st with memerr := true } := by
  unfold State.overrunCycle; split <;> rfl
@[simp] theorem State.overrunCycle_dmacfg (s : State) (x : Txn) : (s.overrunCycle x).dmacfg = s.dmacfg := by
  unfold State.overrunCycle; split <;> rfl
@[simp] theorem State.overrunCycle_icq (s : State) (x : Txn) : (s.overrunCycle x).icq = s.icq := by
  unfold State.overrunCycle; split <;> rfl
@[simp] theorem State.overrunCycle_dma (s : State) (x : Txn) : (s.overrunCycle x).dma = s.dma := by
  unfold State.overrunCycle; split <;> rfl
@[simp] theorem State.overrunCycle_rome (s : State) (x : Txn) : (s.overrunCycle x).rome = s.rome := by
  unfold State.overrunCycle; split <;> rfl

/-! ### Which event a step takes -/

/-- An agent's step or an external raise is neither a reset nor a cycle that is served. -/
theorem not_hostEvent_of_agentStep {s : State}
    (h : Event.isAgentStep s.nextEvent = true ∨ ∃ b, s.nextEvent = .extRaise b) :
    s.nextEvent ≠ .powerOn ∧ ∀ p overrun, s.nextEvent ≠ .busCycle p overrun := by
  rcases h with h | ⟨b, h⟩
  · constructor
    · intro he; rw [he] at h; cases h
    · intro p overrun he; rw [he] at h; cases h
  · rw [h]; exact ⟨nofun, nofun⟩

/-- A step that is no host cycle and no power-on is no reset. -/
theorem not_nextIsReset_of_noCycle {s : State} (hp : s.nextEvent ≠ .powerOn)
    (hc : ∀ p overrun, s.nextEvent ≠ .busCycle p overrun) : ¬ nextIsReset s := by
  rintro (he | ⟨x, ⟨p, overrun, he, -⟩, -⟩)
  · exact hp he
  · exact hc p overrun he

/-! ### The configuration and the phase -/

theorem InstrEffect.cfg {s t : State} {i : Instr} (h : InstrEffect s i t) : t.cfg = s.cfg := by
  cases h <;> simp

theorem InstrEffect.phase {s t : State} {i : Instr} (h : InstrEffect s i t) : t.phase = s.phase := by
  cases h <;> simp

theorem StepEffect.cfg {s t : State} (h : StepEffect s t) : t.cfg = s.cfg := by
  cases h with
  | cycle x i hx hi hin h => exact h.cfg.trans s.popEvent_cfg
  | _ => simp

/-- Only a reset enters BOOT, and only `HandOff` from `COMPLETE` enters NORMAL (60_exceptions.md section 3). -/
theorem StepEffect.phase {s t : State} (h : StepEffect s t) :
    t.phase = s.phase ∨ (t.phase = .boot ∧ nextIsReset s)
      ∨ (t.phase = .normal ∧ s.nextEvent = .handOff ∧ s.rome.rst = .complete) := by
  cases h with
  | reset hr => exact .inr (.inl ⟨rfl, hr⟩)
  | handOff he hph hr => exact .inr (.inr ⟨rfl, he, hr⟩)
  | cycle x i hx hi hin h => exact .inl (h.phase.trans s.popEvent_phase)
  | _ => exact .inl (by simp)

/-- Settles O57: the phase changes only by the two effects that write it. -/
theorem phaseChangesOnlyAtResetAndHandOff : Obligations.PhaseChangesOnlyAtResetAndHandOff := by
  intro s t hstep
  have heff := step_effect hstep
  refine ⟨fun hs ht => ?_, fun hs ht => ?_, heff.cfg⟩ <;>
    rcases heff.phase with hsame | ⟨hboot, hr⟩ | ⟨hnormal, hev, hc⟩
  · rw [hsame, hs] at ht; cases ht
  · exact hr
  · rw [hnormal] at ht; cases ht
  · rw [hsame, hs] at ht; cases ht
  · rw [hboot] at ht; cases ht
  · exact ⟨hev, hc⟩

/-! ### MEMORY_ERROR -/

theorem InstrEffect.memerr {s t : State} {i : Instr} (h : InstrEffect s i t) (hc : s.cfg.memerrClearEvents = [])
    (hm : s.st.memerr = true) : t.st.memerr = true := by
  cases h <;> simp [State.memerrEvent_st, hc, hm]

/-- Settles O56: no effect but a reset clears the bit where no event is named. -/
theorem memoryErrorIsSticky : Obligations.MemoryErrorIsSticky := by
  intro s t hc hm hstep hnr
  cases step_effect hstep with
  | reset hr => exact absurd hr hnr
  | cycle x i hx hi hin h => exact h.memerr (by simpa using hc) (by simpa using hm)
  | _ => simp [hm]

/-! ### The host's registers -/

/-- A window's latches change only by that window's two registers. -/
theorem InstrEffect.window {s t : State} {i : Instr} (h : InstrEffect s i t) (w : WinNo) :
    t.window w = s.window w ∨ ∃ d, i = .wrIdxSelect w d ∨ i = .wrCfgFieldSelect w d := by
  cases h with
  | idxSelect v d =>
    by_cases hv : w = v
    · exact .inr ⟨d, .inl (hv ▸ rfl)⟩
    · exact .inl (by rw [State.release_window, State.window_setWindow_other _ _ hv])
  | fieldSelect v d =>
    by_cases hv : w = v
    · exact .inr ⟨d, .inr (hv ▸ rfl)⟩
    · exact .inl (by rw [State.release_window, State.window_setWindow_other _ _ hv])
  | _ => exact .inl (State.window_congr (by simp) w)

/-- A step that is neither a reset nor a served cycle writes no cursor, window or DMA-config record (10_state.md R46). -/
theorem StepEffect.keeps_hostRegisters {s t : State} (h : StepEffect s t) (hr : ¬ nextIsReset s)
    (hc : ∀ x, ¬ nextCycleIs s x) : t.cur = s.cur ∧ t.win = s.win ∧ t.dmacfg = s.dmacfg := by
  cases h with
  | reset hreset => exact absurd hreset hr
  | cycle x i hx => exact absurd hx (hc x)
  | _ => simp

/-- The instruction behind a change that neither a reset nor an agent's step can make. -/
theorem StepEffect.instr_of_nextCycleIs {s t : State} (h : StepEffect s t) (hr : ¬ nextIsReset s) :
    (t.cur = s.cur ∧ t.win = s.win) ∨ ∃ x, nextCycleIs s x
      ∧ InstrEffect s.popEvent (decode s.cfg s.phase s.rome.rst x) t := by
  cases h with
  | reset hreset => exact absurd hreset hr
  | cycle x i hx hi hin h => exact .inr ⟨x, hx, hi ▸ h⟩
  | _ => exact .inl (by simp)

/-- Settles O16: the step serves a cycle, and its instruction is one of the window's two registers. -/
theorem onlyOwnRegistersWriteLatches : Obligations.OnlyOwnRegistersWriteLatches := by
  intro s t w hstep hnr hne
  rcases (step_effect hstep).instr_of_nextCycleIs hnr with ⟨-, hwin⟩ | ⟨x, hx, hinstr⟩
  · exact absurd (State.window_congr hwin w) hne
  · rcases hinstr.window w with hsame | ⟨d, hd⟩
    · exact absurd (hsame.trans (s.popEvent_window w)) hne
    · exact ⟨x, d, hx, hd⟩

/-- An instruction writes no arena byte but the one that a `DATA_PORT` write stores. -/
theorem InstrEffect.arenaByte {s t : State} {i : Instr} (h : InstrEffect s i t) (a : Nat) :
    t.arenaByte a = s.arenaByte a
      ∨ ∃ w d, i = .wrDataPort w d ∧ a = s.effectiveAddress w ∧ addressValid a = true := by
  cases h with
  | writesArena w d hv =>
    by_cases ha : a = (s.cursor (s.window w).idx).current.toNat
    · exact .inr ⟨w, d, rfl, ha, (addressValid_iff a).mpr (by rwa [ha])⟩
    · exact .inl (by rw [State.release_arenaByte, State.autoStep_arenaByte, State.hostArenaWrite_arenaByte, if_neg ha])
  | _ => exact .inl (State.arenaByte_congr (by simp) (by simp) a)

/-- Taking an event changes no effective address. -/
theorem State.popEvent_effectiveAddress (s : State) (w : WinNo) : s.popEvent.effectiveAddress w = s.effectiveAddress w := by
  rw [State.effectiveAddress_eq, State.effectiveAddress_eq, State.popEvent_window, State.popEvent_cursor]

/-- Who writes an arena byte: a transfer its destination byte, a host write the byte that it stores (10_state.md R46). -/
theorem StepEffect.arenaByte {s t : State} (h : StepEffect s t) (hr : ¬ nextIsReset s) (a : Nat) :
    t.arenaByte a = s.arenaByte a
      ∨ (∃ k, s.nextEvent = .transfer k ∧ k < s.dma.count.toNat ∧ k ∉ s.dma.done ∧ a = s.dma.dst.toNat + k)
      ∨ nextStoresAt s a := by
  cases h with
  | reset hreset => exact absurd hreset hr
  | cycle x i hx hi hin h =>
    rcases h.arenaByte a with hsame | ⟨w, d, hwr, ha, hv⟩
    · exact .inl (hsame.trans (s.popEvent_arenaByte a))
    · exact .inr (.inr ⟨x, w, d, hx, hi.trans hwr, by rwa [State.popEvent_effectiveAddress] at ha, hv⟩)
  | transfer k he _ hk hnew =>
    by_cases ha : a = s.dma.dst.toNat + k
    · exact .inr (.inl ⟨k, he, hk, hnew, ha⟩)
    · exact .inl (by rw [State.transferStep_arenaByte, State.popEvent_dma, if_neg ha, State.popEvent_arenaByte])
  | _ => exact .inl (State.arenaByte_congr (by simp) (by simp) a)

/-- An agent's step drives no byte. -/
theorem StepEffect.dataBus_of_agentStep {s t : State} (h : StepEffect s t) (hp : s.nextEvent ≠ .powerOn)
    (hc : ∀ p overrun, s.nextEvent ≠ .busCycle p overrun) : t.dataBus = none := by
  cases h with
  | reset hr => exact absurd hr (not_nextIsReset_of_noCycle hp hc)
  | lost p x he => exact absurd he (hc p true)
  | cycle x i hx => obtain ⟨p, overrun, he, -⟩ := hx; exact absurd he (hc p overrun)
  | _ => simp

/-- Settles O52: an agent's step is neither a reset nor a cycle, and only a transfer writes the arena. -/
theorem agentStepsKeepHostState : Obligations.AgentStepsKeepHostState := by
  intro s t hev hstep
  obtain ⟨hp, hc⟩ := not_hostEvent_of_agentStep hev
  have heff := step_effect hstep
  obtain ⟨hcur, hwin, hdmacfg⟩ := heff.keeps_hostRegisters (not_nextIsReset_of_noCycle hp hc)
    fun x ⟨p, overrun, he, _⟩ => hc p overrun he
  refine ⟨hcur, hwin, hdmacfg, heff.cfg, heff.dataBus_of_agentStep hp hc, fun a ha => ?_⟩
  rcases (heff.arenaByte (not_nextIsReset_of_noCycle hp hc) a).resolve_left ha with
    ⟨k, hk, -, -, hka⟩ | ⟨x, w, d, ⟨p, overrun, he, -⟩, -⟩
  · exact ⟨k, hk, hka⟩
  · exact absurd he (hc p overrun)

/-! ### ROME's cycles -/

/-- An instruction of phase BOOT changes ROME, the bus and the number of draws alone. -/
theorem InstrEffect.boot_frame {s t : State} {i : Instr} (h : InstrEffect s i t) {rst : RomeState}
    (hin : i.decodesIn .boot rst = true) : t = { s with rome := t.rome, dataBus := t.dataBus, draws := t.draws } := by
  cases h with
  | drives | drivesDraw | ignored | kernelStatus | kernelData => rfl
  | setsBound i hi | setsIrq i hi | setsIrqByEvent i hi => rw [hi] at hin; cases hin
  | _ => cases hin

/-- No word of phase BOOT is a reset. -/
theorem not_nextIsReset_of_boot {s : State} (hph : s.phase = .boot) (hp : s.nextEvent ≠ .powerOn) : ¬ nextIsReset s := by
  rintro (he | ⟨x, -, hx⟩)
  · exact hp he
  · have hin := (decodesTo_decode s.cfg s.phase s.rome.rst x).decodesIn
    rw [hx, hph] at hin
    cases hin

/-- Settles O47: a cycle of phase BOOT is served by an instruction of phase BOOT, or asks for nothing. -/
theorem romeCyclesTouchOnlyRome : Obligations.RomeCyclesTouchOnlyRome := by
  intro s t p overrun hph hev hstep
  have hnr : ¬ nextIsReset s := not_nextIsReset_of_boot hph (by rw [hev]; exact nofun)
  cases step_effect hstep with
  | nothing => rfl
  | reset hr => exact absurd hr hnr
  | lost p' x he hn => rw [hph] at hn; cases hn
  | cycle x i hx hi hin h => rw [hph] at hin; exact h.boot_frame hin
  | dispatchError e rest bits he | dispatchStart e rest he | transfer k he | complete he | extRaise b he
  | startBoot he | releaseReset he | handOff he => rw [hev] at he; cases he

/-! ### The running copy -/

/-- An instruction keeps all of the copy but bytes of the snapshot (45_dma_icq.md R268). -/
theorem InstrEffect.dma {s t : State} {i : Instr} (h : InstrEffect s i t) :
    t.dma = { s.dma with snap := t.dma.snap } := by
  cases h with
  | writesArena w d hv =>
    simpa using (State.hostArenaWrite_dma_frame s (s.cursor (s.window w).idx).current.toNat d).1
  | _ => simp

/-- How the copy in flight goes on: with the same addresses and at most one more offset transferred, to its completion
(45_dma_icq.md section 4). -/
theorem StepEffect.runningCopy {s t : State} (h : StepEffect s t) (hr : ¬ nextIsReset s) (hact : s.dma.active = true) :
    (t.dma.active = true ∧ t.dma.src = s.dma.src ∧ t.dma.dst = s.dma.dst ∧ t.dma.count = s.dma.count
      ∧ (t.dma.done = s.dma.done
        ∨ ∃ k, s.nextEvent = .transfer k ∧ k < s.dma.count.toNat ∧ t.dma.done = insertOffset k s.dma.done))
    ∨ (s.nextEvent = .complete ∧ (∀ k, k < s.dma.count.toNat → k ∈ s.dma.done) ∧ t.dma.active = false) := by
  cases h with
  | reset hreset => exact absurd hreset hr
  | cycle x i hx hi hin h =>
    rw [h.dma, State.popEvent_dma]
    exact .inl ⟨hact, rfl, rfl, rfl, .inl rfl⟩
  | dispatchStart e rest he hq hidle => rw [hact] at hidle; cases hidle
  | transfer k he _ hk => exact .inl (by simp [hact, he, hk])
  | complete he _ hall => exact .inr ⟨he, hall, rfl⟩
  | _ => exact .inl (by simp [hact])

/-- Settles O53: by `StepEffect.runningCopy`. -/
theorem runningCopyIsNotCancelled : Obligations.RunningCopyIsNotCancelled := by
  intro s t hact hstep hnr hev
  rcases (step_effect hstep).runningCopy hnr hact with ⟨hact', hsrc, hdst, hcount, hdone⟩ | ⟨he, -⟩
  · refine ⟨hact', hsrc, hdst, hcount, fun k hk => ?_⟩
    rcases hdone with hdone | ⟨j, -, -, hdone⟩ <;> rw [hdone]
    · exact hk
    · exact (mem_insertOffset j k _).mpr (.inr hk)
  · exact absurd he hev

/-! ### Fairness -/

theorem enabled_dispatch_iff (s : State) : Event.enabled s .dispatch = true ↔ 0 < s.icq.length := by
  simp [Event.enabled]

theorem enabled_transfer_iff (s : State) (k : Nat) :
    Event.enabled s (.transfer k) = true ↔ s.dma.active = true ∧ k < s.dma.count.toNat ∧ k ∉ s.dma.done := by
  simp [Event.enabled, and_assoc]

theorem enabled_complete_iff (s : State) :
    Event.enabled s .complete = true ↔ s.dma.active = true ∧ ∀ k, k < s.dma.count.toNat → k ∈ s.dma.done := by
  rw [Event.enabled, Bool.and_eq_true, Dma.allDone_iff]

theorem enabled_startBoot_iff (s : State) :
    Event.enabled s .startBoot = true ↔ s.phase = .boot ∧ s.rome.rst = .inactive ∧ s.rome.started = false := by
  simp [Event.enabled, and_assoc]

theorem enabled_releaseReset_iff (s : State) :
    Event.enabled s .releaseReset = true ↔ s.rome.rst = .resetSequence := by
  simp [Event.enabled]

theorem enabled_handOff_iff (s : State) :
    Event.enabled s .handOff = true ↔ s.phase = .boot ∧ s.rome.rst = .complete := by
  simp [Event.enabled]

/-- An instruction removes no record from the queue. -/
theorem InstrEffect.icq {s t : State} {i : Instr} (h : InstrEffect s i t) : s.icq.length ≤ t.icq.length := by
  cases h with
  | copyBlock =>
    rcases Nat.lt_or_ge s.icq.length s.cfg.icqCapacity with hroom | hfull
    · rw [State.icqTryAdd_room _ hroom]; simp
    · rw [State.icqTryAdd_full _ hfull]; simp
  | _ => simp

/-- An instruction moves ROME only while ROME serves, and never out of `COMPLETE` (47_rom_emulator.md section 2). -/
theorem InstrEffect.rome {s t : State} {i : Instr} (h : InstrEffect s i t) {ph : Phase}
    (hin : i.decodesIn ph s.rome.rst = true) :
    t.rome = s.rome ∨ (s.rome.rst.serving = true ∧ (s.rome.rst = .complete → t.rome.rst = .complete)) := by
  cases h with
  | kernelStatus v rst hrst =>
    exact .inr ⟨(Bool.and_eq_true _ _ ▸ hin).2, fun hc => by simp [hrst, hc]⟩
  | kernelData v rst hk hrst =>
    exact .inr ⟨(Bool.and_eq_true _ _ ▸ hin).2, fun hc => by simp [hrst, hc]⟩
  | _ => exact .inl (by simp)

section
variable {s t : State}

theorem StepEffect.keeps_dispatch_enabled (h : StepEffect s t) (hr : ¬ nextIsReset s) (he : s.nextEvent ≠ .dispatch)
    (hen : Event.enabled s .dispatch = true) : Event.enabled t .dispatch = true := by
  rw [enabled_dispatch_iff] at hen ⊢
  cases h with
  | reset hreset => exact absurd hreset hr
  | cycle x i hx hi hin h => exact Nat.lt_of_lt_of_le (by simpa using hen) h.icq
  | dispatchError e rest bits hd | dispatchStart e rest hd => exact absurd hd he
  | _ => simpa using hen

theorem StepEffect.keeps_transfer_enabled {k : Nat} (h : StepEffect s t) (hr : ¬ nextIsReset s)
    (he : s.nextEvent ≠ .transfer k) (hen : Event.enabled s (.transfer k) = true) :
    Event.enabled t (.transfer k) = true := by
  rw [enabled_transfer_iff] at hen ⊢
  obtain ⟨hact, hk, hnew⟩ := hen
  rcases h.runningCopy hr hact with ⟨hact', -, -, hcount, hdone⟩ | ⟨-, hall, -⟩
  · refine ⟨hact', hcount ▸ hk, ?_⟩
    rcases hdone with hdone | ⟨j, hj, -, hdone⟩ <;> rw [hdone]
    · exact hnew
    · rw [mem_insertOffset]
      rintro (rfl | hin)
      · exact he hj
      · exact hnew hin
  · exact absurd (hall k hk) hnew

theorem StepEffect.keeps_complete_enabled (h : StepEffect s t) (hr : ¬ nextIsReset s) (he : s.nextEvent ≠ .complete)
    (hen : Event.enabled s .complete = true) : Event.enabled t .complete = true := by
  rw [enabled_complete_iff] at hen ⊢
  obtain ⟨hact, hall⟩ := hen
  rcases h.runningCopy hr hact with ⟨hact', -, -, hcount, hdone⟩ | ⟨hc, -⟩
  · refine ⟨hact', fun k hk => ?_⟩
    have hk' := hall k (hcount ▸ hk)
    rcases hdone with hdone | ⟨j, -, -, hdone⟩ <;> rw [hdone]
    · exact hk'
    · exact (mem_insertOffset j k _).mpr (.inr hk')
  · exact absurd hc he

theorem StepEffect.keeps_startBoot_enabled (h : StepEffect s t) (hr : ¬ nextIsReset s) (he : s.nextEvent ≠ .startBoot)
    (hen : Event.enabled s .startBoot = true) : Event.enabled t .startBoot = true := by
  rw [enabled_startBoot_iff] at hen ⊢
  obtain ⟨hph, hrst, hst⟩ := hen
  cases h with
  | reset hreset => exact absurd hreset hr
  | cycle x i hx hi hin h =>
    rcases h.rome (by simpa using hin) with hrome | ⟨hserving, -⟩
    · rw [h.phase, hrome]; simp [hph, hrst, hst]
    · rw [State.popEvent_rome, hrst] at hserving; cases hserving
  | startBoot hev => exact absurd hev he
  | releaseReset _ hrel => rw [hrst] at hrel; cases hrel
  | handOff _ _ hc => rw [hrst] at hc; cases hc
  | _ => simp [hph, hrst, hst]

theorem StepEffect.keeps_releaseReset_enabled (h : StepEffect s t) (hr : ¬ nextIsReset s)
    (he : s.nextEvent ≠ .releaseReset) (hen : Event.enabled s .releaseReset = true) :
    Event.enabled t .releaseReset = true := by
  rw [enabled_releaseReset_iff] at hen ⊢
  cases h with
  | reset hreset => exact absurd hreset hr
  | cycle x i hx hi hin h =>
    rcases h.rome (by simpa using hin) with hrome | ⟨hserving, -⟩
    · rw [hrome]; simpa using hen
    · rw [State.popEvent_rome, hen] at hserving; cases hserving
  | startBoot => rfl
  | releaseReset hev => exact absurd hev he
  | handOff _ _ hc => rw [hen] at hc; cases hc
  | _ => simpa using hen

theorem StepEffect.keeps_handOff_enabled (h : StepEffect s t) (hr : ¬ nextIsReset s) (he : s.nextEvent ≠ .handOff)
    (hen : Event.enabled s .handOff = true) : Event.enabled t .handOff = true := by
  rw [enabled_handOff_iff] at hen ⊢
  obtain ⟨hph, hc⟩ := hen
  cases h with
  | reset hreset => exact absurd hreset hr
  | cycle x i hx hi hin h =>
    rw [h.phase]
    rcases h.rome (by simpa using hin) with hrome | ⟨-, hkeeps⟩
    · rw [hrome]; simp [hph, hc]
    · exact ⟨by simpa using hph, hkeeps (by simpa using hc)⟩
  | startBoot _ _ hi => rw [hc] at hi; cases hi
  | releaseReset _ hrel => rw [hc] at hrel; cases hrel
  | handOff hev => exact absurd hev he
  | _ => simp [hph, hc]

/-- No step but itself or a reset disables an agent step that is enabled. -/
theorem StepEffect.keeps_enabled {e : Event} (h : StepEffect s t) (hr : ¬ nextIsReset s) (he : s.nextEvent ≠ e)
    (hagent : Event.isAgentStep e = true) (hen : Event.enabled s e = true) : Event.enabled t e = true := by
  cases e with
  | dispatch => exact h.keeps_dispatch_enabled hr he hen
  | transfer k => exact h.keeps_transfer_enabled hr he hen
  | complete => exact h.keeps_complete_enabled hr he hen
  | startBoot => exact h.keeps_startBoot_enabled hr he hen
  | releaseReset => exact h.keeps_releaseReset_enabled hr he hen
  | handOff => exact h.keeps_handOff_enabled hr he hen
  | powerOn => cases hagent
  | busCycle => cases hagent
  | extRaise => cases hagent

end

/-- Settles O60: an enabled step that is never taken stays enabled, so a weakly fair run takes it. -/
theorem fairRunsTakeEnabledAgentSteps : Obligations.FairRunsTakeEnabledAgentSteps := by
  refine ⟨fun s t e hagent hen hstep he hr => (step_effect hstep).keeps_enabled hr he hagent hen, ?_⟩
  intro run ev e n hrun hfair hagent hen
  by_contra hnever
  push Not at hnever
  have hstays : ∀ m, n ≤ m → Event.enabled (run m) e = true := by
    intro m hm
    induction m, hm using Nat.le_induction with
    | base => exact hen
    | succ m hm ih =>
      obtain ⟨hev, hnr⟩ := hnever m hm
      exact (step_effect (hrun m)).keeps_enabled hnr hev hagent ih
  obtain ⟨m, hm, hev⟩ := hfair e hagent n hstays
  exact (hnever m hm).1 hev

end Sys2Proof.Machine
end

section
/-! PROOFS. The step by the event it takes (40_bus_frontend.md sections 2 and 5, 47_rom_emulator.md section 2): the value
of `step` for each kind of event, and the statements that read it off. -/

open Sys2Proof Sys2Proof.Machine

namespace Sys2Proof.Machine

/-! ### The step, event by event -/

section
variable {s : State}

theorem step_powerOn (h : s.nextEvent = .powerOn) : step s = .next s.popEvent.powerOnReset := by
  rw [step_eq, h]; rfl

theorem step_busCycle {p : BusPins} {overrun : Bool} (h : s.nextEvent = .busCycle p overrun) :
    step s = busCycle p overrun s.popEvent := by
  rw [step_eq, h]; rfl

theorem step_extRaise {b : BitVec 12} (h : s.nextEvent = .extRaise b) : step s = .next (s.popEvent.extRaiseStep b) := by
  rw [step_eq, h]; rfl

/-- A disabled agent step only takes the event (notes/assumptions/7.md). -/
theorem step_of_disabled (h : Event.enabled s.popEvent s.nextEvent = false) : step s = .next s.popEvent :=
  if_pos (by rw [h]; rfl)

theorem step_dispatch (h : s.nextEvent = .dispatch) (hen : Event.enabled s.popEvent .dispatch = true) :
    step s = .next s.popEvent.dispatchStep := by
  rw [step_eq, h, runEvent, hen]; rfl

theorem step_transfer {k : Nat} (h : s.nextEvent = .transfer k) (hen : Event.enabled s.popEvent (.transfer k) = true) :
    step s = .next (s.popEvent.transferStep k) := by
  rw [step_eq, h, runEvent, hen]; rfl

theorem step_complete (h : s.nextEvent = .complete) (hen : Event.enabled s.popEvent .complete = true) :
    step s = .next s.popEvent.completeStep := by
  rw [step_eq, h, runEvent, hen]; rfl

theorem step_startBoot (h : s.nextEvent = .startBoot) (hen : Event.enabled s.popEvent .startBoot = true) :
    step s = if Params.valid s.cfg then .next s.popEvent.startBootStep else .refused .invalidConfiguration := by
  rw [step_eq, h, runEvent, hen, State.popEvent_cfg]; rfl

theorem step_releaseReset (h : s.nextEvent = .releaseReset) (hen : Event.enabled s.popEvent .releaseReset = true) :
    step s = .next s.popEvent.releaseResetStep := by
  rw [step_eq, h, runEvent, hen]; rfl

theorem step_handOff (h : s.nextEvent = .handOff) (hen : Event.enabled s.popEvent .handOff = true) :
    step s = .next s.popEvent.handOffStep := by
  rw [step_eq, h, runEvent, hen]; rfl

end

/-! ### Bus cycles -/

/-- A cycle in one direction serves the word of its lines (40_bus_frontend.md R142). -/
theorem busCycle_of_direction {p : BusPins} {t : Txn} (overrun : Bool) (s : State)
    (h : (BusPins.direction p = .read ∧ t = mkTxn false p.d p.a)
      ∨ (BusPins.direction p = .write ∧ t = mkTxn true p.d p.a)) : busCycle p overrun s = serveCycle t overrun s := by
  rcases h with ⟨hd, rfl⟩ | ⟨hd, rfl⟩ <;> rw [busCycle, hd]

/-- A cycle that is not lost runs its instruction (40_bus_frontend.md R141, 47_rom_emulator.md R321). -/
theorem serveCycle_served (t : Txn) {overrun : Bool} {s : State} (h : s.phase = .normal → overrun = false) :
    serveCycle t overrun s = exec (decode s.cfg s.phase s.rome.rst t) s := by
  refine if_neg fun hlost => ?_
  simp only [Bool.and_eq_true, decide_eq_true_eq] at hlost
  rw [h hlost.1] at hlost
  cases hlost.2

/-- A cycle of phase NORMAL with an overrun is lost (40_bus_frontend.md R146). -/
theorem serveCycle_lost (t : Txn) {s : State} (h : s.phase = .normal) :
    serveCycle t true s = .next (s.overrunCycle t) := by
  rw [serveCycle, h]; rfl

/-- Settles O7: the cycle's lines carry its word, and the word is decoded in the state's phase. -/
theorem stepRunsDecodedCycle : Obligations.StepRunsDecodedCycle := by
  rintro s t ⟨p, overrun, he, ho, hdir⟩
  rw [step_busCycle he, busCycle_of_direction overrun _ hdir, serveCycle_served t (by simpa using ho)]
  simp

/-- Settles O10: each clause is one direction of the cycle's lines. -/
theorem cyclesWithoutOneDirection : Obligations.CyclesWithoutOneDirection := by
  intro s a d overrun
  refine ⟨fun he => ?_, fun he => ?_, fun oeN weN he => ?_⟩ <;> rw [step_busCycle he] <;> rfl

/-- A lost cycle changes the error's status and cause, the bus and the number of draws alone (40_bus_frontend.md R146). -/
theorem State.overrunCycle_frame (s : State) (t : Txn) :
    s.overrunCycle t
      = { s.raise causeMemoryError with dataBus := (s.overrunCycle t).dataBus, draws := (s.overrunCycle t).draws } := by
  unfold State.overrunCycle; split <;> rfl

/-- Settles O9: an overrun cycle is the error, with a draw on the bus in a read. -/
theorem lostCycleOnlySignals : Obligations.LostCycleOnlySignals := by
  intro s p hph he hdir
  obtain ⟨x, hx⟩ : ∃ x, (BusPins.direction p = .read ∧ x = mkTxn false p.d p.a)
      ∨ (BusPins.direction p = .write ∧ x = mkTxn true p.d p.a) :=
    hdir.elim (fun h => ⟨_, .inl ⟨h, rfl⟩⟩) (fun h => ⟨_, .inr ⟨h, rfl⟩⟩)
  have hstep : step s = .next (s.popEvent.overrunCycle x) := by
    rw [step_busCycle he, busCycle_of_direction true _ hx, serveCycle_lost x (by simpa using hph)]
  have hirq : (s.popEvent.overrunCycle x).irq = s.irq.setBits causeMemoryError := by
    rw [State.overrunCycle_frame, State.raise_irq, State.popEvent_irq]
  obtain ⟨hline, hcause, hmask, henable⟩ := Irq.setBits_spec s.irq causeMemoryError
  rw [← hirq] at hline hcause hmask henable
  refine ⟨_, hstep, by simp, hcause, hmask, henable, hline, fun hread => ?read, fun hwrite => ?write, ?frame⟩
  case read =>
    rcases hx with ⟨-, rfl⟩ | ⟨hw, -⟩
    · simp [State.overrunCycle]
    · rw [hread] at hw; cases hw
  case write =>
    rcases hx with ⟨hr, -⟩ | ⟨-, rfl⟩
    · rw [hwrite] at hr; cases hr
    · simp [State.overrunCycle]
  case frame => rw [State.overrunCycle_frame]; rfl

/-! ### Words of the opcode table -/

/-- In BOOT the decoder asks of ROME's state only whether it serves (47_rom_emulator.md R324). -/
theorem decodeBoot_congr (p : Params) {rst rst' : RomeState} (h : rst.serving = rst'.serving) (t : Txn) :
    decodeBoot p rst t = decodeBoot p rst' t := by
  rw [decodeBoot, decodeBoot, h]

/-- The instruction of a table word is what it decodes to in the state made ready for its phase. -/
theorem decode_readyFor (s : State) (ph : Phase) (t : Txn) :
    decode s.cfg (s.readyFor ph).phase (s.readyFor ph).rome.rst t = decode s.cfg ph .bootActive t := by
  cases ph with
  | normal =>
    have hph : (s.readyFor .normal).phase = .normal := by
      unfold State.readyFor; dsimp only; split
      · assumption
      · rfl
    rw [hph]; rfl
  | boot =>
    have hready : (s.readyFor .boot).phase = .boot ∧ (s.readyFor .boot).rome.rst.serving = true := by
      unfold State.readyFor; dsimp only; split
      · assumption
      · exact ⟨rfl, rfl⟩
    rw [hready.1]
    exact decodeBoot_congr s.cfg hready.2 t

/-- Making a state ready for a phase touches neither its configuration nor its inbox. -/
theorem State.readyFor_keeps (s : State) (ph : Phase) :
    (s.readyFor ph).cfg = s.cfg ∧ (s.readyFor ph).inbox = s.inbox := by
  unfold State.readyFor
  cases ph <;> dsimp only <;> split <;> exact ⟨rfl, rfl⟩

/-- Taking the presented word leaves the state made ready, with the bus released. -/
theorem State.popEvent_presentWord (s : State) (t : Txn) :
    (s.presentWord t).popEvent = (s.readyFor (tableWordPhase t)).release := by
  have hinbox := (s.readyFor_keeps (tableWordPhase t)).2
  unfold State.presentWord State.popEvent State.release
  rw [← hinbox]

/-- What it takes for a number to be a table word. -/
theorem decode_of_decodeTableWord {nbits w : Nat} {i : Instr} (h : decodeTableWord nbits w = some i) :
    decode Params.reference (tableWordPhase (BitVec.ofNat 17 (w % 2 ^ nbits))) .bootActive
      (BitVec.ofNat 17 (w % 2 ^ nbits)) = i := by
  unfold decodeTableWord decodeNat at h
  split at h
  · exact Option.some.inj h
  · cases h

/-- Settles O8: the word is the next cycle, and decodes in the state made ready as in the table. -/
theorem fetchWordRunsTableInstr : Obligations.FetchWordRunsTableInstr := by
  intro s nbits w i hcfg hi
  have hdec := decode_of_decodeTableWord hi
  rw [State.withFetchWord]
  generalize BitVec.ofNat 17 (w % 2 ^ nbits) = t at hdec ⊢
  have he : (s.presentWord t).nextEvent = .busCycle (Txn.pins t) false := rfl
  rw [step_busCycle he, busCycle_pins, serveCycle_served t fun _ => rfl, State.popEvent_presentWord]
  rw [State.release_cfg, State.release_phase, State.release_rome, (s.readyFor_keeps _).1, decode_readyFor, hcfg, hdec]

end Sys2Proof.Machine
end

section
/-! PROOFS. The reads and writes of the window latches, the mask and the enable (41_register_decode_window.md,
46_irq_controller.md section 4). -/

open Sys2Proof Sys2Proof.Machine

namespace Sys2Proof.Machine

theorem exec_rdCfgFieldSelect (w : WinNo) (s : State) :
    exec (.rdCfgFieldSelect w) s = .next (s.drive (s.window w).sel) := rfl

theorem exec_rdCommand (w : WinNo) (s : State) : exec (.rdCommand w) s = .next (s.drive 0x00) := rfl

theorem exec_rdSharedCommand (s : State) : exec .rdSharedCommand s = .next (s.drive 0x00) := rfl

theorem exec_rdIrqEnable (s : State) :
    exec .rdIrqEnable s = .next (s.drive (if s.irq.enable = true then 0x01 else 0x00)) := rfl

theorem exec_rdIrqMaskLow (s : State) : exec .rdIrqMaskLow s = .next (s.drive (fieldByte s.irq.mask 0)) := rfl

theorem exec_rdIrqMaskHigh (s : State) : exec .rdIrqMaskHigh s = .next (s.drive (fieldByte s.irq.mask 1)) := rfl

theorem exec_wrCfgFieldSelect (w : WinNo) (d : Byte) (s : State) :
    exec (.wrCfgFieldSelect w d) s = .next (s.setWindow w { s.window w with sel := d }).release := rfl

/-- Settles O12: each read drives its byte; the two mask reads drive the bytes of the mask. -/
theorem selectorCommandMaskAndEnableReads : Obligations.SelectorCommandMaskAndEnableReads := by
  intro w s
  refine ⟨exec_rdCfgFieldSelect w s, exec_rdCommand w s, exec_rdSharedCommand s, exec_rdIrqEnable s, _, _,
    exec_rdIrqMaskLow s, exec_rdIrqMaskHigh s, fun j hj => ⟨?low, ?high⟩⟩
  case low => rw [fieldByte_getLsbD _ 0 j hj, Nat.mul_zero, Nat.zero_add]
  case high => rw [fieldByte_getLsbD _ 1 j hj, Nat.mul_one, Nat.add_comm]

/-- Settles O14: the written byte is the window's selector, and no other latch moves. -/
theorem cfgFieldSelectWriteSetsOneLatch : Obligations.CfgFieldSelectWriteSetsOneLatch := by
  intro w d s
  refine ⟨_, exec_wrCfgFieldSelect w d s, ?sel, ?idx, fun v hv => ?other, rfl⟩
  case sel => rw [State.release_window, State.window_setWindow_same]
  case idx => rw [State.release_window, State.window_setWindow_same]
  case other => rw [State.release_window, State.window_setWindow_other s _ hv]

end Sys2Proof.Machine
end

section
/-! PROOFS. `CFG_DATA` (43_ime_config.md): which byte a selector names, what a write leaves of the others, and the round
trip of a 24-bit field, one register access at a time. -/

open Sys2Proof Sys2Proof.Machine

namespace Sys2Proof.Machine

/-! ### The selector map -/

section
variable {sel : Byte}

theorem cfgField_current (h : sel.toNat < 3) : cfgField sel = .current sel.toNat := by
  rw [cfgField, if_pos (by omega)]

theorem cfgField_dflt (h1 : 3 ≤ sel.toNat) (h2 : sel.toNat < 6) : cfgField sel = .dflt (sel.toNat - 3) := by
  rw [cfgField, if_neg (by omega), if_pos (by omega)]

theorem cfgField_limit (h1 : 6 ≤ sel.toNat) (h2 : sel.toNat < 9) : cfgField sel = .limit (sel.toNat - 6) := by
  rw [cfgField, if_neg (by omega), if_neg (by omega), if_pos (by omega)]

theorem cfgField_dmaCount (h1 : 13 ≤ sel.toNat) (h2 : sel.toNat < 15) : cfgField sel = .dmaCount (sel.toNat - 13) := by
  rw [cfgField, if_neg (by omega), if_neg (by omega), if_neg (by omega), if_neg (by omega), if_neg (by omega),
    if_neg (by omega), if_neg (by omega), if_pos (by omega)]

end

/-- The bytes that the fields of the map have: three of an address, two of the count. -/
def CfgField.inRange : CfgField → Prop
  | .current k | .dflt k | .limit k => k < 3
  | .dmaCount k => k < 2
  | .step | .flags | .dmaSrc | .dmaDst | .nothing => True

/-- Every selector names a byte that its field has, or nothing (43_ime_config.md R212, R214). -/
theorem cfgField_inRange (sel : Byte) : (cfgField sel).inRange := by
  unfold cfgField
  split_ifs <;> simp only [CfgField.inRange] <;> omega

/-- The selector of a byte, 15 for none. -/
def CfgField.selector : CfgField → Nat
  | .current k => k
  | .dflt k => k + 3
  | .limit k => k + 6
  | .step => 9
  | .flags => 10
  | .dmaSrc => 11
  | .dmaDst => 12
  | .dmaCount k => k + 13
  | .nothing => 15

theorem selector_cfgField {sel : Byte} : (cfgField sel).selector = min sel.toNat 15 := by
  unfold cfgField
  split_ifs <;> simp only [CfgField.selector] <;> omega

/-- Two selectors name the same byte only where they name nothing (43_ime_config.md R212). -/
theorem cfgField_injective {sel sel' : Byte} (h : cfgField sel = cfgField sel') (hsel : sel.toNat ≤ 14) : sel = sel' := by
  have hsame := congrArg CfgField.selector h
  rw [selector_cfgField, selector_cfgField] at hsame
  exact BitVec.eq_of_toNat_eq (by omega)

/-! ### Reads -/

/-- A byte of a field as a number (30_encoding.md R118). -/
theorem fieldByte_toNat {n : Nat} (f : BitVec n) (k : Nat) : (fieldByte f k).toNat = f.toNat / 2 ^ (8 * k) % 256 := by
  rw [fieldByte, BitVec.extractLsb'_toNat, Nat.shiftRight_eq_div_pow]

/-- Settles O24: the byte of the field that the selector names. -/
theorem cfgDataReadsSelectedByte : Obligations.CfgDataReadsSelectedByte := by
  intro w s
  refine ⟨_, exec_rdCfgData w s, fun h => ?current, fun h1 h2 => ?dflt, fun h1 h2 => ?limit, fun h => ?step,
    fun h => ?flags, fun h => ?dmaSrc, fun h => ?dmaDst, fun h1 h2 => ?dmaCount⟩
  case current => rw [cfgField_current h]; exact fieldByte_toNat _ _
  case dflt => rw [cfgField_dflt h1 h2]; exact fieldByte_toNat _ _
  case limit => rw [cfgField_limit h1 h2]; exact fieldByte_toNat _ _
  case step => rw [h]; rfl
  case flags => rw [h]; rfl
  case dmaSrc => rw [h]; rfl
  case dmaDst => rw [h]; rfl
  case dmaCount => rw [cfgField_dmaCount h1 h2]; exact fieldByte_toNat _ _

/-- Reads take the cursor and the DMA-config record alone. -/
theorem State.cfgRead_congr {s t : State} {i : CurNo} (hc : t.cursor i = s.cursor i) (hd : t.dmacfg = s.dmacfg)
    (f : CfgField) : t.cfgRead i f = s.cfgRead i f := by
  cases f <;> simp only [State.cfgRead, hc, hd]

/-! ### Writes -/

/-- A byte just written is read back. -/
theorem State.cfgRead_cfgWrite_same (s : State) (i : CurNo) (d : Byte) {f : CfgField} (hf : f.inRange)
    (hn : f ≠ .nothing) : (s.cfgWrite i d f).cfgRead i f = d := by
  cases f with
  | current k | dflt k | limit k =>
    simp only [State.cfgRead, State.cfgWrite, State.cursor_setCursor_same]
    exact fieldByte_replaceByte_same24 _ k d hf
  | step | flags => simp only [State.cfgRead, State.cfgWrite, State.cursor_setCursor_same]
  | dmaSrc | dmaDst => rfl
  | dmaCount k => exact fieldByte_replaceByte_same16 _ k d hf
  | nothing => exact absurd rfl hn

/-- Every other byte keeps its value: of the same field by the bytes' places, of another field since it is not written. -/
theorem State.cfgRead_cfgWrite_other (s : State) (i : CurNo) (d : Byte) {f g : CfgField} (hg : g.inRange) (h : g ≠ f) :
    (s.cfgWrite i d f).cfgRead i g = s.cfgRead i g := by
  have hcur : ∀ c, (s.setCursor i c).cursor i = c := s.cursor_setCursor_same i
  cases f with
  | current k =>
    cases g with
    | current l =>
      simp only [State.cfgRead, State.cfgWrite, hcur]
      exact fieldByte_replaceByte_other24 _ k l d hg fun hl => h (hl ▸ rfl)
    | _ => simp only [State.cfgRead, State.cfgWrite, hcur, State.setCursor_dmacfg]
  | dflt k =>
    cases g with
    | dflt l =>
      simp only [State.cfgRead, State.cfgWrite, hcur]
      exact fieldByte_replaceByte_other24 _ k l d hg fun hl => h (hl ▸ rfl)
    | _ => simp only [State.cfgRead, State.cfgWrite, hcur, State.setCursor_dmacfg]
  | limit k =>
    cases g with
    | limit l =>
      simp only [State.cfgRead, State.cfgWrite, hcur]
      exact fieldByte_replaceByte_other24 _ k l d hg fun hl => h (hl ▸ rfl)
    | _ => simp only [State.cfgRead, State.cfgWrite, hcur, State.setCursor_dmacfg]
  | step =>
    cases g with
    | step => exact absurd rfl h
    | _ => simp only [State.cfgRead, State.cfgWrite, hcur, State.setCursor_dmacfg]
  | flags =>
    cases g with
    | flags => exact absurd rfl h
    | _ => simp only [State.cfgRead, State.cfgWrite, hcur, State.setCursor_dmacfg]
  | dmaSrc =>
    cases g with
    | dmaSrc => exact absurd rfl h
    | _ => rfl
  | dmaDst =>
    cases g with
    | dmaDst => exact absurd rfl h
    | _ => rfl
  | dmaCount k =>
    cases g with
    | dmaCount l => exact fieldByte_replaceByte_other16 _ k l d hg fun hl => h (hl ▸ rfl)
    | _ => rfl
  | nothing => rfl

/-- A write changes the cursor file and the DMA-config record alone. -/
theorem State.cfgWrite_frame (s : State) (i : CurNo) (d : Byte) (f : CfgField) :
    s.cfgWrite i d f = { s with cur := (s.cfgWrite i d f).cur, dmacfg := (s.cfgWrite i d f).dmacfg } := by
  cases f <;> rfl

/-- A write through a selector up to 10 is one of a cursor (43_ime_config.md R212). -/
theorem State.cfgWrite_dmacfg (s : State) (i : CurNo) (d : Byte) {f : CfgField} (h : f.selector ≤ 10) :
    (s.cfgWrite i d f).dmacfg = s.dmacfg := by
  cases f with
  | dmaSrc | dmaDst => exact absurd h (by decide)
  | dmaCount k => exact absurd h (by rw [CfgField.selector]; omega)
  | _ => rfl

/-- A write through a selector from 11 up is one of the DMA-config record, or none (43_ime_config.md R212). -/
theorem State.cfgWrite_cur (s : State) (i : CurNo) (d : Byte) {f : CfgField} (hf : f.inRange) (h : 11 ≤ f.selector) :
    (s.cfgWrite i d f).cur = s.cur := by
  cases f with
  | dmaSrc | dmaDst | dmaCount | nothing => rfl
  | step | flags => exact absurd h (by decide)
  | current k | dflt k | limit k =>
    simp only [CfgField.inRange, CfgField.selector] at hf h
    omega

/-- A write of any field but `current` keeps every cursor's address. -/
theorem State.cfgWrite_keeps_current (s : State) (i j : CurNo) (d : Byte) {f : CfgField} (hf : ∀ k, f ≠ .current k) :
    ((s.cfgWrite i d f).cursor j).current = (s.cursor j).current := by
  have hset : ∀ c : Cursor, c.current = (s.cursor i).current →
      ((s.setCursor i c).cursor j).current = (s.cursor j).current := by
    intro c hc
    by_cases hj : j = i
    · rw [hj, State.cursor_setCursor_same, hc]
    · rw [State.cursor_setCursor_other s c hj]
  cases f with
  | current k => exact absurd rfl (hf k)
  | dflt | limit | step | flags => exact hset _ rfl
  | _ => rfl

/-- A write changes no cursor but the one that the window selects. -/
theorem State.cfgWrite_cursor_other (s : State) {i j : CurNo} (d : Byte) (f : CfgField) (h : j ≠ i) :
    (s.cfgWrite i d f).cursor j = s.cursor j := by
  cases f with
  | current | dflt | limit | step | flags => exact State.cursor_setCursor_other s _ h
  | _ => rfl

/-- Settles O25: the written byte is read back, and every other byte keeps its value. -/
theorem cfgDataWriteReplacesOneByte : Obligations.CfgDataWriteReplacesOneByte := by
  intro w d s hsel
  have hread : ∀ g, (s.cfgWrite (s.window w).idx d (cfgField (s.window w).sel)).release.cfgRead (s.window w).idx g
      = (s.cfgWrite (s.window w).idx d (cfgField (s.window w).sel)).cfgRead (s.window w).idx g :=
    State.cfgRead_congr (State.release_cursor _ _) rfl
  refine ⟨_, exec_wrCfgData w d s, ?same, fun sel hne => ?others, fun j hj => ?cursors, fun h => ?dmacfg,
    fun h => ?cur, ?frame⟩
  case same =>
    have hsome : cfgField (s.window w).sel ≠ .nothing := fun hn => by
      have := (cfgField_eq_nothing_iff _).mp hn
      omega
    rw [hread, State.cfgRead_cfgWrite_same _ _ _ (cfgField_inRange _) hsome]
  case others =>
    rw [hread, State.cfgRead_cfgWrite_other _ _ _ (cfgField_inRange sel)
      fun h => hne (cfgField_injective h.symm hsel).symm]
  case cursors => rw [State.release_cursor, State.cfgWrite_cursor_other _ _ _ hj]
  case dmacfg => exact State.cfgWrite_dmacfg _ _ _ (by rw [selector_cfgField]; omega)
  case cur => exact State.cfgWrite_cur _ _ _ (cfgField_inRange _) (by rw [selector_cfgField]; omega)
  case frame => rw [State.cfgWrite_frame]; rfl

/-! ### The round trip, cycle by cycle -/

/-- One step of a run, as `readsOf` counts it. -/
theorem readsOf_succ {s t : State} (k : Nat) (h : step s = .next t) :
    readsOf (k + 1) s = (t.dataBus :: (readsOf k t).1, (readsOf k t).2) := by
  rw [readsOf, h]

/-- A cycle given with a word runs its instruction on the state with the event taken. -/
theorem step_of_inbox_cycle {s : State} {t : Txn} {rest : List Event}
    (h : s.inbox = .busCycle (Txn.pins t) false :: rest) :
    step s = exec (decode s.cfg s.phase s.rome.rst t) s.popEvent := by
  have hnext : s.nextEvent = .busCycle (Txn.pins t) false := by rw [State.nextEvent, h]
  rw [step_busCycle hnext, busCycle_pins, serveCycle_served t fun _ => rfl]
  simp

theorem State.popEvent_inbox {s : State} {e : Event} {rest : List Event} (h : s.inbox = e :: rest) :
    s.popEvent.inbox = rest := by
  rw [State.popEvent, h]

/-- What a run of cycles through window `w` keeps track of: the events to come, and the byte behind each selector. -/
structure CfgView (s : State) (w : WinNo) (events : List Event) (bytes : Byte → Byte) : Prop where
  phase : s.phase = .normal
  inbox : s.inbox = events
  reads : ∀ sel, s.cfgRead (s.window w).idx (cfgField sel) = bytes sel

section
variable {s : State} {w : WinNo} {rest : List Event} {bytes : Byte → Byte}

/-- The cycle that selects a byte. -/
theorem CfgView.select {sel : Byte} (h : CfgView s w (writeAt (windowAddr w 2) sel :: rest) bytes) :
    ∃ t, step s = .next t ∧ t.dataBus = none ∧ (t.window w).sel = sel ∧ CfgView t w rest bytes := by
  have hdec : decodeNormal (mkTxn true sel (windowAddr w 2)) = .wrCfgFieldSelect w sel := decodeNormal_windowAddr ..
  refine ⟨_, by rw [step_of_inbox_cycle h.inbox, h.phase, decode, hdec, exec_wrCfgFieldSelect], rfl, by simp,
    by simpa using h.phase, by simpa using State.popEvent_inbox h.inbox, fun sel' => ?_⟩
  rw [← h.reads sel', State.release_window, State.window_setWindow_same, State.popEvent_window]
  exact State.cfgRead_congr (by simp) (by simp) _

/-- The cycle that writes the selected byte. -/
theorem CfgView.write {d : Byte} (h : CfgView s w (writeAt (windowAddr w 3) d :: rest) bytes)
    (hsel : (s.window w).sel.toNat ≤ 14) :
    ∃ t, step s = .next t ∧ t.dataBus = none
      ∧ CfgView t w rest (Function.update bytes (s.window w).sel d) := by
  have hdec : decodeNormal (mkTxn true d (windowAddr w 3)) = .wrCfgData w d := decodeNormal_windowAddr ..
  obtain ⟨t, ht, hsame, hothers, -, -, -, hframe⟩ :=
    cfgDataWriteReplacesOneByte w d s.popEvent (by rwa [State.popEvent_window])
  rw [State.popEvent_window] at hsame hothers
  have hwin : t.window w = s.window w := by rw [hframe]; exact State.popEvent_window s w
  refine ⟨t, by rw [step_of_inbox_cycle h.inbox, h.phase, decode, hdec, ht], by rw [hframe], ?_, ?_, fun sel => ?_⟩
  · rw [hframe]; simpa using h.phase
  · rw [hframe]; exact State.popEvent_inbox h.inbox
  · rw [hwin]
    by_cases hs : sel = (s.window w).sel
    · rw [hs, Function.update_self, hsame]
    · rw [Function.update_of_ne hs, hothers sel hs, ← h.reads sel]
      exact State.cfgRead_congr (by simp) (by simp) _

/-- The cycle that reads the selected byte. -/
theorem CfgView.read (h : CfgView s w (readAt (windowAddr w 3) :: rest) bytes) :
    ∃ t, step s = .next t ∧ t.dataBus = some (bytes (s.window w).sel) ∧ CfgView t w rest bytes := by
  have hdec : decodeNormal (mkTxn false 0 (windowAddr w 3)) = .rdCfgData w := decodeNormal_windowAddr ..
  have hreads : ∀ f, s.popEvent.cfgRead (s.window w).idx f = s.cfgRead (s.window w).idx f :=
    State.cfgRead_congr (by simp) (by simp)
  refine ⟨_, by rw [step_of_inbox_cycle h.inbox, h.phase, decode, hdec, exec_rdCfgData], ?_, by simpa using h.phase,
    by simpa using State.popEvent_inbox h.inbox, fun sel => ?_⟩
  · rw [State.drive_dataBus, State.popEvent_window, hreads, h.reads]
  · rw [← h.reads sel, State.drive_window, State.popEvent_window]
    exact State.cfgRead_congr (by simp) (by simp) _

/-- Select and write: the byte behind the selector is replaced. -/
theorem CfgView.setField {sel d : Byte} (n : Nat) (hsel : sel.toNat ≤ 14)
    (h : CfgView s w (writeAt (windowAddr w 2) sel :: writeAt (windowAddr w 3) d :: rest) bytes) :
    ∃ t, (readsOf (n + 2) s).1 = none :: none :: (readsOf n t).1 ∧ CfgView t w rest (Function.update bytes sel d) := by
  obtain ⟨t, ht, hbus, rfl, hview⟩ := h.select
  obtain ⟨u, hu, hbus', hview'⟩ := hview.write hsel
  exact ⟨u, by rw [readsOf_succ _ ht, readsOf_succ _ hu, hbus, hbus'], hview'⟩

/-- Select and read: the byte behind the selector is returned. -/
theorem CfgView.getField {sel : Byte} (n : Nat)
    (h : CfgView s w (writeAt (windowAddr w 2) sel :: readAt (windowAddr w 3) :: rest) bytes) :
    ∃ t, (readsOf (n + 2) s).1 = none :: some (bytes sel) :: (readsOf n t).1 ∧ CfgView t w rest bytes := by
  obtain ⟨t, ht, hbus, rfl, hview⟩ := h.select
  obtain ⟨u, hu, hbus', hview'⟩ := hview.read
  exact ⟨u, by rw [readsOf_succ _ ht, readsOf_succ _ hu, hbus, hbus'], hview'⟩

end

/-- Settles O27: three pairs of cycles replace the field's bytes, and three pairs read them back. -/
theorem cfgAddressBytesRoundTrip : Obligations.CfgAddressBytesRoundTrip := by
  intro s w base b0 b1 b2 rest hph hbase hin
  have hsel : base.toNat ≤ 14 ∧ (base + 1).toNat ≤ 14 ∧ (base + 2).toNat ≤ 14 ∧ base ≠ base + 1 ∧ base ≠ base + 2
      ∧ base + 1 ≠ base + 2 := by
    rcases hbase with rfl | rfl | rfl <;> decide
  obtain ⟨h0, h1, h2, h01, h02, h12⟩ := hsel
  obtain ⟨t1, hr1, hv1⟩ := CfgView.setField 10 h0 ⟨hph, hin, fun _ => rfl⟩
  obtain ⟨t2, hr2, hv2⟩ := hv1.setField 8 h1
  obtain ⟨t3, hr3, hv3⟩ := hv2.setField 6 h2
  obtain ⟨t4, hr4, hv4⟩ := hv3.getField 4
  obtain ⟨t5, hr5, hv5⟩ := hv4.getField 2
  obtain ⟨t6, hr6, -⟩ := hv5.getField 0
  rw [hr1, hr2, hr3, hr4, hr5, hr6, Function.update_self, Function.update_of_ne h12, Function.update_self,
    Function.update_of_ne h02, Function.update_of_ne h01, Function.update_self]
  rfl

end Sys2Proof.Machine
end

section
/-! PROOFS. What accesses of `DATA_PORT` do one after the other (42_ime_data_port.md): a byte written is read back, a step
past the arena is found at the next access and stays found. -/

open Sys2Proof Sys2Proof.Machine

namespace Sys2Proof.Machine

/-! ### The race with a running copy, and the round trip -/

/-- Settles O19: the write hits a pending source byte, so the snapshot keeps its byte or takes the new one. -/
theorem sourceWriteRacesWithCopy : Obligations.SourceWriteRacesWithCopy := by
  intro w d s k hact hk hnew haddr hvalid
  have hpending : s.sourcePending (s.dma.src.toNat + k) = true :=
    (State.sourcePending_iff s _).mpr ⟨hact, by omega, by omega, by rwa [Nat.add_sub_cancel_left]⟩
  obtain ⟨-, hdma⟩ := (State.hostArenaWrite_dma s (s.dma.src.toNat + k) d).2 hpending
  rw [Nat.add_sub_cancel_left] at hdma
  refine ⟨_, exec_wrDataPort_valid (by omega), ?stored, ?frame, ?race⟩
  case stored =>
    rw [State.release_arenaByte, State.autoStep_arenaByte, State.hostArenaWrite_arenaByte, haddr, if_pos rfl]
  case frame =>
    rw [State.release_dma, State.autoStep_dma]
    exact (State.hostArenaWrite_dma_frame s _ d).1
  case race =>
    rw [State.release_dma, State.autoStep_dma, haddr]
    rcases hdma with h | h <;> rw [h]
    · exact .inl rfl
    · exact .inr rfl

/-- With `AUTO_STEP` clear an access steps nothing (42_ime_data_port.md R181, R182). -/
theorem State.autoStep_of_clear {s : State} {w : WinNo} (h : (s.cursor (s.window w).idx).flags &&& 0x01 = 0) :
    s.autoStep w = s :=
  if_neg fun hset => (Cursor.autoStep_iff _).mp hset h

/-- Settles O22: neither access steps the cursor, so the read finds the byte that the write stored. -/
theorem writeThenReadReturnsByte : Obligations.WriteThenReadReturnsByte := by
  intro w v d s hv hclear hvalid
  have hwrite := exec_wrDataPort_valid (d := d) hvalid
  rw [State.autoStep_of_clear (by rwa [State.hostArenaWrite_window, State.hostArenaWrite_cursor])] at hwrite
  generalize ht : (s.hostArenaWrite (s.cursor (s.window w).idx).current.toNat d).release = t at hwrite
  have hcursor : t.cursor (t.window v).idx = s.cursor (s.window w).idx := by simp [← ht, hv]
  have hread := exec_rdDataPort_valid (w := v) (s := t) (by rwa [hcursor])
  rw [State.autoStep_of_clear (by rwa [hcursor]), hcursor] at hread
  refine ⟨t, _, hwrite, hread, ?_, by simp [← ht], by simp [← ht], by simp [← ht]⟩
  rw [State.drive_dataBus, ← ht, State.release_arenaByte, State.hostArenaWrite_arenaByte, if_pos rfl]

/-! ### Past the arena -/

/-- The cursor that an access steps. -/
theorem State.autoStep_cursor_stepped {s : State} {w : WinNo} (h : (s.cursor (s.window w).idx).flags &&& 0x01 ≠ 0) :
    (s.autoStep w).cursor (s.window w).idx = Cursor.stepped (s.cursor (s.window w).idx) := by
  rw [State.autoStep_cursor_active, State.activeCursor_eq, if_pos h]

/-- An access at a valid address succeeds, and leaves the cursor where its step leads. -/
theorem dataPort_steps {w : WinNo} {d : Byte} {s : State} {i : Instr} (hi : i = .rdDataPort w ∨ i = .wrDataPort w d)
    (hset : (s.cursor (s.window w).idx).flags &&& 0x01 ≠ 0)
    (hvalid : (s.cursor (s.window w).idx).current.toNat < 0x40000) :
    ∃ t, exec i s = .next t ∧ t.st = s.st ∧ t.irq = s.irq ∧ t.win = s.win
      ∧ t.cursor (s.window w).idx = Cursor.stepped (s.cursor (s.window w).idx) := by
  rcases hi with rfl | rfl
  · refine ⟨_, exec_rdDataPort_valid hvalid, by simp, by simp, by simp, ?_⟩
    rw [State.drive_cursor, State.autoStep_cursor_stepped hset]
  · refine ⟨_, exec_wrDataPort_valid hvalid, by simp, by simp, by simp, ?_⟩
    have hstep := State.autoStep_cursor_stepped
      (s := s.hostArenaWrite (s.cursor (s.window w).idx).current.toNat d) (w := w)
    simp only [State.hostArenaWrite_window, State.hostArenaWrite_cursor] at hstep
    rw [State.release_cursor, hstep hset]

/-- An access at an invalid address signals and moves no cursor, so the next one does the same. -/
theorem dataPort_signals {v : WinNo} (d : Byte) {s : State} (h : 0x40000 ≤ (s.cursor (s.window v).idx).current.toNat) :
    ∃ t u, exec (.rdDataPort v) s = .next t ∧ exec (.wrDataPort v d) s = .next u
      ∧ t.dataBus = some 0x00 ∧ u.dataBus = none ∧ u = { t with dataBus := none }
      ∧ t.st.memerr = true ∧ t.irq.cause.getLsbD 0 = true ∧ t.cur = s.cur ∧ t.win = s.win
      ∧ t.dma = s.dma ∧ ∀ a, t.arenaByte a = s.arenaByte a := by
  refine ⟨_, _, exec_rdDataPort_invalid h, exec_wrDataPort_invalid h, rfl, rfl, rfl, rfl, ?_, rfl, rfl, rfl,
    fun a => by simp⟩
  rw [State.drive_irq, State.raise_irq, (Irq.setBits_spec _ _).2.1, BitVec.getLsbD_or]
  simp [causeMemoryError]

/-- What can move a cursor that stands past the arena (43_ime_config.md section 2, 44_commands.md). -/
theorem InstrEffect.cursor_pastArena {s t : State} {i : Instr} (h : InstrEffect s i t) {j : CurNo}
    (hj : 0x40000 ≤ (s.cursor j).current.toNat) :
    (t.cursor j).current = (s.cursor j).current ∨ i = .scmdResetAllIdx ∨ i = .scmdFactoryResetAllIdx
      ∨ ∃ w, (s.window w).idx = j ∧ (i = .cmdResetIndex w ∨ ((s.window w).sel.toNat ≤ 2 ∧ ∃ d, i = .wrCfgData w d)) := by
  have hother : ∀ w, (s.cursor (s.window w).idx).current.toNat < 0x40000 → j ≠ (s.window w).idx := by
    rintro w hw rfl; omega
  cases h with
  | readsArena w hv => exact .inl (by rw [State.drive_cursor, State.autoStep_cursor_other s w (hother w hv)])
  | writesArena w d hv =>
    refine .inl ?_
    rw [State.release_cursor, State.autoStep_cursor_other _ w (by simpa using hother w hv), State.hostArenaWrite_cursor]
  | cfgData w d =>
    by_cases hw : (s.window w).idx = j
    · by_cases hsel : (s.window w).sel.toNat ≤ 2
      · exact .inr (.inr (.inr ⟨w, hw, .inr ⟨hsel, d, rfl⟩⟩))
      · refine .inl (s.cfgWrite_keeps_current _ j d fun k hk => hsel ?_)
        have hrange := cfgField_inRange (s.window w).sel
        have hselector := selector_cfgField (sel := (s.window w).sel)
        rw [hk] at hrange hselector
        simp only [CfgField.inRange, CfgField.selector] at hrange hselector
        omega
    · exact .inl (by rw [State.release_cursor, State.cfgWrite_cursor_other s d _ (Ne.symm hw)])
  | resetIndex w =>
    by_cases hw : (s.window w).idx = j
    · exact .inr (.inr (.inr ⟨w, hw, .inl rfl⟩))
    · exact .inl (by rw [State.release_cursor, State.cursor_setCursor_other s _ (Ne.symm hw)])
  | setsBound i hi w c hc =>
    refine .inl ?_
    by_cases hw : j = (s.window w).idx
    · rw [hw, State.release_cursor, State.cursor_setCursor_same, hc]
    · rw [State.release_cursor, State.cursor_setCursor_other s _ hw]
  | resetAllIdx => exact .inr (.inl rfl)
  | factoryReset => exact .inr (.inr (.inl rfl))
  | _ => exact .inl (congrArg Cursor.current (State.cursor_congr (by simp) j))

/-- Settles O23: the three clauses are `dataPort_steps`, `dataPort_signals` and `InstrEffect.cursor_pastArena`. -/
theorem stepPastArenaFoundLater : Obligations.StepPastArenaFoundLater := by
  refine ⟨fun w d s i hi hset hvalid hpast => ?steps, fun v d s h => dataPort_signals d h,
    fun s t j hstep hnr hj hne => ?moves⟩
  case steps =>
    obtain ⟨t, ht, hst, hirq, hwin, hcur⟩ := dataPort_steps hi hset hvalid
    exact ⟨t, ht, hst, hirq, hwin, hcur ▸ hpast⟩
  case moves =>
    rcases (step_effect hstep).instr_of_nextCycleIs hnr with ⟨hcur, -⟩ | ⟨x, hx, hinstr⟩
    · exact absurd (congrArg Cursor.current (State.cursor_congr hcur j)) hne
    · have hmoved := hinstr.cursor_pastArena (j := j) (by rwa [State.popEvent_cursor])
      simp only [State.popEvent_cursor, State.popEvent_window] at hmoved
      exact ⟨x, hx, hmoved.resolve_left hne⟩

end Sys2Proof.Machine
end

section
/-! PROOFS. The commands that set a limit, clear the IRQ state or reset (44_commands.md), and the writes that can clear
MEMORY_ERROR (decision D11). -/

open Sys2Proof Sys2Proof.Machine

namespace Sys2Proof.Machine

/-! ### `SET_LIMIT_TO_ADDR` -/

theorem exec_cmdSetLimitToAddr (w : WinNo) (s : State) :
    exec (.cmdSetLimitToAddr w) s
      = .next (s.setCursor (s.window w).idx
          { s.cursor (s.window w).idx with limit := (s.cursor (s.window w).idx).current }).release := rfl

/-- A forward step with wrap set, from a cursor whose limit is its own address, returns to the default (44_commands.md
R233). -/
theorem Cursor.stepped_current_at_limit {c : Cursor} (hflags : c.flags &&& 0x06 = 0x04) (hlimit : c.limit = c.current) :
    (Cursor.stepped c).current = c.dflt := by
  have hbits : ∀ f : Byte, f &&& 0x06 = 0x04 → f &&& 0x04 ≠ 0 ∧ f &&& 0x02 = 0 := by decide
  obtain ⟨hwrap, hdir⟩ := hbits c.flags hflags
  have hforward : Cursor.backward c = false := Bool.eq_false_iff.mpr fun h => (Cursor.backward_iff c).mp h hdir
  have hpast : Cursor.pastLimit c = true := (Cursor.pastLimit_forward hforward).mpr (by rw [hlimit]; omega)
  exact if_pos (by rw [(Cursor.wrapOnLimit_iff c).mpr hwrap, hpast]; rfl)

/-- Settles O29: the command replaces the active cursor's record by one that differs in its limit, which the next forward
step meets. -/
theorem setLimitMakesNextStepWrap : Obligations.SetLimitMakesNextStepWrap := by
  intro w s
  obtain ⟨hsame, hothers, hframe⟩ := State.setCursor_release_spec s (s.window w).idx
    { s.cursor (s.window w).idx with limit := (s.cursor (s.window w).idx).current }
  refine ⟨_, exec_cmdSetLimitToAddr w s, hsame, hothers, hframe, fun hflags => ?_⟩
  rw [hsame]
  exact Cursor.stepped_current_at_limit (by exact hflags) rfl

/-! ### The events that can clear MEMORY_ERROR -/

/-- A clearing event changes `st.memerr` alone (decision D11). -/
theorem State.memerrEvent_frame (s : State) (e : MemerrClearEvent) :
    s.memerrEvent e
      = { s with st := { s.st with memerr := s.st.memerr && !s.cfg.memerrClearEvents.contains e } } := by
  rw [← State.memerrEvent_st]
  unfold State.memerrEvent
  split <;> rfl

theorem exec_scmdFactoryResetAllIdx (s : State) :
    exec .scmdFactoryResetAllIdx s
      = .next (({ s with irq := s.irq.init s.cfg, cur := Params.cursorTable s.cfg } : State).memerrEvent
          .factoryReset).release := rfl

theorem exec_scmdClearIrq (s : State) :
    exec .scmdClearIrq s = .next (({ s with irq := s.irq.clearAll } : State).memerrEvent .clearIrq).release := rfl

theorem exec_wrDeviceStatus (d : Byte) (s : State) :
    exec (.wrDeviceStatus d) s = .next (s.memerrEvent .deviceStatusWrite).release := rfl

/-- `irq_clear_all` clears the cause and deasserts the line (46_irq_controller.md R310). -/
theorem Irq.clearAll_frame (q : Irq) : q.clearAll = { q with cause := 0x0000, line := false } := by
  rw [← (Irq.clearAll_spec q).1]; rfl

/-- Settles O31: the IRQ state and the cursor file take their reset values, and the event may clear the status bit. -/
theorem factoryResetRestoresCursorsAndIrq : Obligations.FactoryResetRestoresCursorsAndIrq := by
  intro s
  refine ⟨_, exec_scmdFactoryResetAllIdx s, ?irq, fun i => ?cursors, ?st, ?frame⟩
  case irq => rw [State.release_irq, State.memerrEvent_irq]; exact Irq.init_eq_reset s.cfg s.irq
  case cursors => rw [State.release_cursor, State.memerrEvent_cursor]; exact cursorTable_get s.cfg ⟨i.toNat, i.isLt⟩
  case st => rw [State.release_st, State.memerrEvent_st]
  case frame => rw [State.memerrEvent_frame]; rfl

/-- Settles O32: the cause and the line are cleared, or nothing; the event may clear the status bit. -/
theorem clearIrqAndStatusWrite : Obligations.ClearIrqAndStatusWrite := by
  intro d s
  constructor
  · rw [exec_scmdClearIrq, State.memerrEvent_frame, Irq.clearAll_frame]; rfl
  · rw [exec_wrDeviceStatus, State.memerrEvent_frame]; rfl

/-! ### Resets -/

theorem exec_scmdSystemReset (s : State) :
    exec .scmdSystemReset s = .next (State.powerOn s.cfg (s.epoch + 1) s.inbox s.draws) := rfl

/-- Settles O34: both leave the power-on state of the next epoch. -/
theorem resetsLeaveResetState : Obligations.ResetsLeaveResetState := by
  intro s
  refine ⟨_, exec_scmdSystemReset s, fun he => ?powerOn, rfl, State.powerOn_window _ _ _ _, State.powerOn_cursor _ _ _ _,
    State.powerOn_arenaByte _ _ _ _, rfl, rfl, rfl, rfl, rfl, rfl, rfl, rfl⟩
  rw [step_powerOn he, State.powerOnReset, State.popEvent_cfg, State.popEvent_epoch]
  rfl

/-- Settles O35: the reference table has its palette banks where `PALETTE_BASE` puts them, so every cursor is its row. -/
theorem resetStateValues : Obligations.ResetStateValues := by
  refine ⟨rfl, fun i => ?_, State.powerOn_window _ _ _ _, State.powerOn_arenaByte _ _ _ _, rfl, rfl, rfl, rfl, rfl, rfl,
    rfl, rfl, rfl⟩
  calc State.reset.cursor i
      = Params.cursorRecord Params.reference i.toNat ((defaultTable 0x16800).get ⟨i.toNat, i.isLt⟩) :=
        State.powerOn_cursor ..
    _ = Params.cursorRecord Params.reference i.toNat (defaultCursor 0x16800 i.toNat) := by rw [defaultTable_get]
    _ = defaultCursor 0x16800 i.toNat := cursorRecord_defaultCursor Params.reference i.toNat

/-- The rows from 128 up are one record (10_state.md R40). -/
theorem defaultCursor_upper (b : Addr) {i : Nat} (h : 128 ≤ i) :
    defaultCursor b i = ⟨0x013800, 0x013800, 0x03C000, 1, 0x01⟩ := by
  unfold defaultCursor
  rw [if_neg (by omega), if_neg (by omega), if_neg (by omega), if_neg (by omega), if_neg (by omega), if_neg (by omega),
    if_neg (by omega), if_neg (by omega), if_neg (by omega), if_neg (by omega), if_pos h]
  rfl

/-- "In every record, `current` equals `default`" (10_state.md R40). -/
theorem defaultCursor_current (b : Addr) (i : Nat) : (defaultCursor b i).current = (defaultCursor b i).dflt := by
  simp only [defaultCursor, paletteRecord, apply_ite Cursor.current, apply_ite Cursor.dflt]
  rfl

/-- The record of a palette bank, in 24-bit arithmetic (conflict C5). -/
theorem paletteRecord_eq (b : Addr) (k : Nat) :
    paletteRecord b k = ⟨b + BitVec.ofNat 24 (0x10 * k), b + BitVec.ofNat 24 (0x10 * k),
      b + BitVec.ofNat 24 (0x10 * k + 0x10), 1, 0x05⟩ := by
  simp only [paletteRecord, defaultRecord, Nat.add_assoc, BitVec.ofNat_add, BitVec.ofNat_toNat, BitVec.setWidth_eq]

/-- The reference images fit into their regions, so the reference configuration is admitted (47_rom_emulator.md R321). -/
theorem valid_reference : Params.valid Params.reference = true := by
  have hlength : Params.reference.bootloaderImage.length ≤ 0xE0 := by
    rw [reference_bootloader_length]; exact Nat.le_of_lt_succ Config.bootloaderLength.isLt
  have hout : ∀ a : Byte, 0xE0 ≤ a.toNat → inBootloader Params.reference a = false := by
    intro a ha
    have hbase : Params.reference.blBase.toNat = 0 := rfl
    rw [inBootloader, hbase, Bool.and_eq_false_iff, decide_eq_false_iff_not, decide_eq_false_iff_not]
    omega
  have hkernel : Params.reference.kernelImage.length ≤ 65535 := by
    rw [reference_kernel_length]; exact Nat.le_of_lt_succ Config.kernelLength.isLt
  have hregions : romeRegionsDisjoint Params.reference = true := by
    have hwindow : Params.reference.blBase.toNat + Params.reference.bootloaderImage.length ≤ 256 := by
      have hbase : Params.reference.blBase.toNat = 0 := rfl
      omega
    simp only [romeRegionsDisjoint, Bool.and_eq_true, Bool.not_eq_true', decide_eq_true_eq]
    exact ⟨⟨⟨⟨⟨by decide, hout _ (by decide)⟩, hout _ (by decide)⟩, hout _ (by decide)⟩, hout _ (by decide)⟩, hwindow⟩
  have htable : tableKeepsSource Params.reference = true := by decide +kernel
  simp only [Params.valid, Bool.and_eq_true, decide_eq_true_eq]
  exact ⟨⟨⟨⟨by decide, hkernel⟩, hregions⟩, by decide⟩, htable⟩

/-- Settles O36: the rows are evaluated at the ends of the ranges, the palette banks stand at their base. -/
theorem referenceTableAndConfiguration : Obligations.ReferenceTableAndConfiguration := by
  refine ⟨by decide, by decide, by decide, by decide, by decide, by decide, by decide, by decide, by decide, by decide,
    by decide, by decide, by decide, fun i hi => defaultCursor_upper _ hi, defaultCursor_current, fun p k c hk => ?palette,
    fun p i c hi => cursorRecord_other p hi c, valid_reference⟩
  case palette => rw [cursorRecord_palette p hk, paletteRecord_eq]

end Sys2Proof.Machine
end

section
/-! PROOFS. The status byte and the writes of the cause registers (46_irq_controller.md sections 2 and 3), bit by bit. -/

open Sys2Proof Sys2Proof.Machine

namespace Sys2Proof.Machine

/-! ### `DEVICE_STATUS` -/

theorem exec_rdDeviceStatus (s : State) : exec .rdDeviceStatus s = .next (s.drive s.statusByte) := rfl

/-- A status bit is set at its own place alone. -/
theorem statusBit_getLsbD (place j : Fin 8) (b : Bool) :
    (statusBit place b).getLsbD j.val = (b && decide (j = place)) := by
  revert place j b; decide

/-- A bit of the status byte: the stored and computed bits, each at its place (46_irq_controller.md R293). -/
theorem State.statusByte_getLsbD (s : State) (j : Fin 8) :
    s.statusByte.getLsbD j.val
      = (decide (j = s.cfg.statusLayout.ready)
        || s.irq.pending && decide (j = s.cfg.statusLayout.irqPending)
        || s.st.memerr && decide (j = s.cfg.statusLayout.memoryError)
        || s.st.idxovf && decide (j = s.cfg.statusLayout.indexOverflow)
        || s.st.dmaActive && decide (j = s.cfg.statusLayout.dmaActive)) := by
  simp only [State.statusByte, BitVec.getLsbD_or, statusBit_getLsbD, Bool.true_and]

/-- Settles O38: at each of five distinct places one term of `State.statusByte_getLsbD` is left, elsewhere none. -/
theorem deviceStatusReadsFiveBits : Obligations.DeviceStatusReadsFiveBits := by
  intro s hlayout
  simp only [statusLayoutDistinct, decide_eq_true_eq, List.nodup_cons, List.mem_cons, List.not_mem_nil, or_false,
    not_or, List.nodup_nil, and_true, not_false_eq_true] at hlayout
  obtain ⟨⟨h1, h2, h3, h4⟩, ⟨h5, h6, h7⟩, ⟨h8, h9⟩, h10⟩ := hlayout
  refine ⟨_, exec_rdDeviceStatus s, ?ready, ?irqPending, ?memoryError, ?indexOverflow, ?dmaActive, fun j hj => ?others⟩
  case others =>
    simp only [List.mem_cons, List.not_mem_nil, or_false, not_or] at hj
    rw [State.statusByte_getLsbD]; simp [hj]
  case ready => rw [State.statusByte_getLsbD]; simp
  case irqPending => rw [State.statusByte_getLsbD]; simp [Ne.symm h1, h5, h6, h7, Irq.pending]
  case memoryError => rw [State.statusByte_getLsbD]; simp [Ne.symm h2, Ne.symm h5, h8, h9]
  case indexOverflow => rw [State.statusByte_getLsbD]; simp [Ne.symm h3, Ne.symm h6, Ne.symm h8, h10]
  case dmaActive => rw [State.statusByte_getLsbD]; simp [Ne.symm h4, Ne.symm h7, Ne.symm h9, Ne.symm h10]

/-! ### The cause registers -/

theorem exec_wrIrqCauseHigh (d : Byte) (s : State) :
    exec (.wrIrqCauseHigh d) s
      = .next ({ s with irq := s.irq.clearCause (d.setWidth 16 <<< 8) } : State).release := rfl

/-- The write of the low cause byte: where it clears bit 0 that is an event that `MEMERR_CLEAR_EVENTS` can name. -/
theorem exec_wrIrqCauseLow (d : Byte) (s : State) :
    exec (.wrIrqCauseLow d) s
      = .next
        { s with
          irq := s.irq.clearCause (d.setWidth 16)
          st := { s.st with
            memerr := s.st.memerr && !(d.getLsbD 0 && s.cfg.memerrClearEvents.contains .causeBitZeroCleared) }
          dataBus := none } := by
  rw [exec, execWrIrqCauseLow]
  cases d.getLsbD 0
  · simp [State.release]
  · simp [State.release, State.memerrEvent_frame]

/-- `irq_clear_cause` changes the cause and the line alone (46_irq_controller.md R299). -/
theorem Irq.clearCause_frame (q : Irq) (m : Half) :
    q.clearCause m = { q with cause := (q.clearCause m).cause, line := (q.clearCause m).pending } := rfl

/-- A bit of the cause after a clear: a 1 clears it, a 0 leaves it (46_irq_controller.md R299). -/
theorem Irq.clearCause_getLsbD (q : Irq) (m : Half) (j : Nat) :
    (q.clearCause m).cause.getLsbD j = (q.cause.getLsbD j && !m.getLsbD j) := by
  rw [(Irq.clearCause_spec q m).2.1, BitVec.getLsbD_and, BitVec.getLsbD_not]
  by_cases hj : j < 16
  · simp [hj]
  · rw [BitVec.getLsbD_of_ge q.cause j (by omega), Bool.false_and, Bool.false_and]

/-- The written byte at the place of the low cause byte. -/
theorem lowByte_getLsbD (d : Byte) (j : Nat) : (d.setWidth 16 : Half).getLsbD j = d.getLsbD j := by
  rw [BitVec.getLsbD_setWidth]
  by_cases hj : j < 16
  · simp [hj]
  · simp [hj, BitVec.getLsbD_of_ge d j (by omega)]

/-- The written byte at the place of the high cause byte. -/
theorem highByte_getLsbD (d : Byte) (j : Nat) :
    ((d.setWidth 16 : Half) <<< 8).getLsbD j = (decide (8 ≤ j) && d.getLsbD (j - 8)) := by
  rw [BitVec.getLsbD_shiftLeft, lowByte_getLsbD]
  by_cases hj : j < 16
  · by_cases h8 : j < 8
    · simp [h8]
    · simp [hj, h8, Nat.le_of_not_lt h8]
  · simp [BitVec.getLsbD_of_ge d (j - 8) (by omega)]

/-- Settles O39: each write clears the bits of its byte, in place. -/
theorem causeWritesClearOnes : Obligations.CauseWritesClearOnes := by
  refine ⟨fun d s => ⟨⟨_, exec_wrIrqCauseLow d s, fun j => ?low, Irq.clearCause_frame _ _, rfl, rfl⟩,
    ⟨_, exec_wrIrqCauseHigh d s, fun j => ?high, Irq.clearCause_frame _ _, rfl⟩⟩, ?lowEncoding, ?highEncoding⟩
  case low => rw [Irq.clearCause_getLsbD, lowByte_getLsbD]
  case high => rw [State.release_irq, Irq.clearCause_getLsbD, highByte_getLsbD]
  case lowEncoding => exact normalEncoding_sharedRegister true 0x71 fun _ _ => rfl
  case highEncoding => exact normalEncoding_sharedRegister true 0x72 fun _ _ => rfl

end Sys2Proof.Machine
end

section
/-! PROOFS. The ROM emulator (47_rom_emulator.md): the reads of its regions, its sequencer's own steps, and the boot
sequence as a run that streams the kernel image. -/

open Sys2Proof Sys2Proof.Machine

namespace Sys2Proof.Machine

/-! ### The reads -/

theorem exec_romRdVectorLo (s : State) : exec .romRdVectorLo s = .next (s.drive (fieldByte s.cfg.bootloaderEntry 0)) := rfl

theorem exec_romRdVectorHi (s : State) : exec .romRdVectorHi s = .next (s.drive (fieldByte s.cfg.bootloaderEntry 1)) := rfl

theorem exec_romRdOther (a : Byte) (s : State) : exec (.romRdOther a) s = .next (s.drive s.cfg.hostNopByte) := rfl

/-- Settles O41: the two vector bytes are the bytes of the entry word. -/
theorem romVectorAndFillerReads : Obligations.RomVectorAndFillerReads := by
  intro a s
  refine ⟨_, _, exec_romRdVectorLo s, exec_romRdVectorHi s, ?_, exec_romRdOther a s⟩
  have hentry := s.cfg.bootloaderEntry.isLt
  rw [fieldByte_toNat, fieldByte_toNat]
  omega

/-- Settles O42: the address lies in the bootloader region, at its offset of the image. -/
theorem romBootloaderReadsImage : Obligations.RomBootloaderReadsImage := by
  intro s a k b ha hb
  obtain ⟨hk, -⟩ := List.getElem?_eq_some_iff.mp hb
  have hin : inBootloader s.cfg a = true := by
    rw [inBootloader, Bool.and_eq_true, decide_eq_true_iff, decide_eq_true_iff]; omega
  have hoffset : a.toNat - s.cfg.blBase.toNat = k := by omega
  have hbyte : s.cfg.bootloaderImage.getD k s.cfg.hostNopByte = b := by
    rw [List.getD_eq_getElem?_getD, hb]; rfl
  rw [exec, execRomRdBootloader, if_pos hin, hoffset, hbyte]
  rfl

/-- Kernel bytes remain where the pointer is below the image's length (47_rom_emulator.md R333). -/
theorem State.kernelRemains_iff (s : State) : s.kernelRemains = true ↔ s.rome.kptr.toNat < s.cfg.kernelImage.length :=
  decide_eq_true_iff

/-- ROME's state after a kernel-status read (47_rom_emulator.md R326). -/
def romeAfterStatus (p : Params) (rst : RomeState) : RomeState :=
  if rst = .bootActive then (if p.kernelImage.length = 0 then .complete else .kernelLoading) else rst

theorem exec_romRdKstatus (s : State) :
    exec .romRdKstatus s = .next
      (({ s with rome := { s.rome with rst := romeAfterStatus s.cfg s.rome.rst } } : State).drive
        (if s.rome.kptr.toNat < s.cfg.kernelImage.length then 0x01 else 0x00)) := by
  rw [exec, execRomRdKstatus]
  simp only [State.kernelRemains_iff, romeAfterStatus]

/-- Settles O43: the five states one by one. -/
theorem kernelStatusReads : Obligations.KernelStatusReads := by
  intro s
  rw [exec_romRdKstatus]
  cases hrst : s.rome.rst <;> simp [romeAfterStatus, State.drive, List.length_eq_zero_iff]

/-- A kernel-data read past the end of the image (47_rom_emulator.md R334). -/
theorem exec_romRdKdata_past {s : State} (h : s.cfg.kernelImage.length ≤ s.rome.kptr.toNat) :
    exec .romRdKdata s = .next s.driveDraw :=
  if_neg fun hr => absurd ((State.kernelRemains_iff s).mp hr) (Nat.not_lt.mpr h)

/-- ROME after the kernel-data read that streams byte `kptr` (47_rom_emulator.md R334). -/
def romeAfterData (p : Params) (r : Rome) : Rome :=
  { r with
    kptr := r.kptr + 1
    rst := if r.kptr.toNat + 1 = p.kernelImage.length then .complete else r.rst }

/-- The pointer does not wrap while bytes of an admitted image remain. -/
theorem kptr_succ_toNat {p : Params} (hp : p.kernelImage.length ≤ 65535) {k : Half}
    (hk : k.toNat < p.kernelImage.length) : (k + 1).toNat = k.toNat + 1 := by
  rw [BitVec.toNat_add]
  exact Nat.mod_eq_of_lt (by simp; omega)

/-- A kernel-data read while bytes remain. -/
theorem exec_romRdKdata_next {s : State} (hp : s.cfg.kernelImage.length ≤ 65535) {b : Byte}
    (hb : s.cfg.kernelImage[s.rome.kptr.toNat]? = some b) :
    exec .romRdKdata s = .next (({ s with rome := romeAfterData s.cfg s.rome } : State).drive b) := by
  obtain ⟨hk, -⟩ := List.getElem?_eq_some_iff.mp hb
  have hbyte : s.cfg.kernelImage.getD s.rome.kptr.toNat s.cfg.hostNopByte = b := by
    rw [List.getD_eq_getElem?_getD, hb]; rfl
  rw [exec, execRomRdKdata, if_pos ((State.kernelRemains_iff s).mpr hk), hbyte]
  simp only [romeAfterData, kptr_succ_toNat hp hk]

/-- Settles O44: a byte of the image is driven and the pointer moves on, past the end a free byte. -/
theorem kernelDataReads : Obligations.KernelDataReads := by
  intro s hp
  refine ⟨fun b hb => ?_, fun h => exec_romRdKdata_past h⟩
  obtain ⟨hk, -⟩ := List.getElem?_eq_some_iff.mp hb
  exact ⟨_, exec_romRdKdata_next hp hb, rfl, kptr_succ_toNat hp hk, rfl, rfl, rfl⟩

/-- Settles O45: by the direction of the cycle. -/
theorem notServingCycles : Obligations.NotServingCycles := by
  intro t s
  constructor <;> intro ht <;> rw [Txn.isWrite] at ht <;> rw [exec, execRomCycleNotServing, ht] <;> rfl

/-! ### The sequencer's steps -/

/-- Settles O46: each step is enabled, and is the event's change of the state. -/
theorem bootSequencerSteps : Obligations.BootSequencerSteps := by
  intro s
  refine ⟨fun he hph hr hst => ?startBoot, fun he hr => ?releaseReset, fun he hph hr => ?handOff⟩
  case startBoot =>
    have hstep := step_startBoot he ((enabled_startBoot_iff _).mpr (by simp [hph, hr, hst]))
    refine ⟨fun hv => ?_, fun hv => ?_⟩ <;> rw [hstep, hv]
    · rw [if_pos rfl, State.startBootStep, State.popEvent_rome, State.popEvent_out]
    · rfl
  case releaseReset =>
    rw [step_releaseReset he ((enabled_releaseReset_iff _).mpr (by simpa using hr)), State.releaseResetStep,
      State.popEvent_rome, State.popEvent_out]
  case handOff =>
    rw [step_handOff he ((enabled_handOff_iff _).mpr (by simp [hph, hr])), State.handOffStep, State.popEvent_rome,
      State.popEvent_out]

end Sys2Proof.Machine
end

section
/-! PROOFS. The boot sequence as a run (47_rom_emulator.md R337, 70_reset_and_hazards.md section 1): one pass of a correct
bootloader's loop streams one byte (`Streaming.pass`), so the loop streams what remains of the image. -/

open Sys2Proof Sys2Proof.Machine

namespace Sys2Proof.Machine

/-! ### Runs -/

/-- What a run reads, of two parts. -/
theorem readsOf_add {s u : State} {m : Nat} {bytes : List (Option Byte)} (n : Nat) (h : readsOf m s = (bytes, some u)) :
    readsOf (m + n) s = (bytes ++ (readsOf n u).1, (readsOf n u).2) := by
  induction m generalizing s bytes with
  | zero =>
    cases h
    rw [Nat.zero_add]; rfl
  | succ m ih =>
    rw [Nat.succ_add]
    cases hstep : step s with
    | next t =>
      rw [readsOf_succ m hstep] at h
      obtain ⟨rfl, hlast⟩ := Prod.mk.inj h
      rw [readsOf_succ _ hstep, ih (Prod.ext rfl hlast)]
      rfl
    | fault r => rw [readsOf, hstep] at h; cases h
    | refused r => rw [readsOf, hstep] at h; cases h

/-- The state after a run, whatever it reads. -/
theorem after_eq_readsOf (k : Nat) (s : State) : after k s = (readsOf k s).2 := by
  induction k generalizing s with
  | zero => rfl
  | succ k ih =>
    rw [after, readsOf]
    cases step s with
    | next t => exact ih t
    | fault r => rfl
    | refused r => rfl

/-- Taking an event that the inbox gives. -/
theorem State.popEvent_of_inbox {s : State} {e : Event} {rest : List Event} (h : s.inbox = e :: rest) :
    s.popEvent = { s with dataBus := none, inbox := rest } := by
  rw [State.popEvent, h]; rfl

theorem State.nextEvent_of_inbox {s : State} {e : Event} {rest : List Event} (h : s.inbox = e :: rest) :
    s.nextEvent = e := by
  rw [State.nextEvent, h]

/-! ### The loop of a correct bootloader -/

/-- ROME serves, and `bytes` are what remains of the image; the status read leaves it where that calls for. -/
structure Streaming (s : State) (bytes : List Byte) : Prop where
  phase : s.phase = .boot
  valid : Params.valid s.cfg = true
  serving : s.rome.rst.serving = true
  remaining : s.cfg.kernelImage.drop s.rome.kptr.toNat = bytes
  bounded : s.rome.kptr.toNat ≤ s.cfg.kernelImage.length
  next : romeAfterStatus s.cfg s.rome.rst = if bytes = [] then .complete else .kernelLoading

/-- A kernel of an admitted configuration has at most 65535 bytes (00_scope.md R10). -/
theorem kernel_length_of_valid {p : Params} (h : Params.valid p = true) : p.kernelImage.length ≤ 65535 := by
  simp only [Params.valid, Bool.and_eq_true, decide_eq_true_eq] at h
  obtain ⟨⟨⟨⟨-, hk⟩, -⟩, -⟩, -⟩ := h
  exact hk

section
variable {s : State} {bytes : List Byte} {rest : List Event}

theorem Streaming.length_eq (h : Streaming s bytes) :
    s.rome.kptr.toNat + bytes.length = s.cfg.kernelImage.length := by
  have hlength := congrArg List.length h.remaining
  have hbounded := h.bounded
  rw [List.length_drop] at hlength
  omega

/-- The status read: 1 exactly while bytes remain (47_rom_emulator.md R326, R333). -/
theorem Streaming.status_step (h : Streaming s bytes) (hin : s.inbox = readAt s.cfg.kstatusAddr :: rest) :
    step s = .next
      { s with
        rome := { s.rome with rst := if bytes = [] then .complete else .kernelLoading }
        dataBus := some (if bytes = [] then 0x00 else 0x01)
        inbox := rest } := by
  have hdec : decodeBoot s.cfg s.rome.rst (mkTxn false 0 s.cfg.kstatusAddr) = .romRdKstatus := by
    rw [decodeBoot_read _ h.serving, (romeRegion_of_valid h.valid).2.2.1]; rfl
  have hremain : (s.rome.kptr.toNat < s.cfg.kernelImage.length) ↔ ¬ bytes = [] := by
    rw [← h.length_eq, ← List.length_eq_zero_iff]; omega
  have hstep := step_of_inbox_cycle hin
  rw [h.phase, decode, hdec, exec_romRdKstatus, State.popEvent_of_inbox hin] at hstep
  rw [hstep]
  simp only [State.drive, h.next, hremain, ite_not]

/-- The data read: the first of the bytes that remain (47_rom_emulator.md R334). -/
theorem Streaming.data_step {b : Byte} (h : Streaming s (b :: bytes))
    (hin : s.inbox = readAt s.cfg.kdataAddr :: rest) :
    step s = .next { s with rome := romeAfterData s.cfg s.rome, dataBus := some b, inbox := rest } := by
  have hdec : decodeBoot s.cfg s.rome.rst (mkTxn false 0 s.cfg.kdataAddr) = .romRdKdata := by
    rw [decodeBoot_read _ h.serving, (romeRegion_of_valid h.valid).2.2.2]; rfl
  have hbyte : s.cfg.kernelImage[s.rome.kptr.toNat]? = some b := by
    rw [← List.head?_drop, h.remaining]; rfl
  have hstep := step_of_inbox_cycle hin
  rw [h.phase, decode, hdec, State.popEvent_of_inbox hin] at hstep
  exact hstep.trans (exec_romRdKdata_next (s := { s with dataBus := none, inbox := rest })
    (kernel_length_of_valid h.valid) hbyte)

/-- What one pass of the loop leaves: the state after the status read streams the same bytes, the one after the data read
the rest. -/
theorem Streaming.after_status (h : Streaming s bytes) (bus : Option Byte) (l : List Event) :
    Streaming { s with
      rome := { s.rome with rst := if bytes = [] then .complete else .kernelLoading }
      dataBus := bus
      inbox := l } bytes := by
  refine ⟨h.phase, h.valid, ?_, h.remaining, h.bounded, ?_⟩ <;> dsimp only
  · split <;> rfl
  · split <;> rfl

theorem Streaming.after_data {b : Byte} (h : Streaming s (b :: bytes)) (hr : s.rome.rst = .kernelLoading)
    (bus : Option Byte) (l : List Event) :
    Streaming { s with rome := romeAfterData s.cfg s.rome, dataBus := bus, inbox := l } bytes := by
  have hlength := h.length_eq
  rw [List.length_cons] at hlength
  have hsucc : (s.rome.kptr + 1).toNat = s.rome.kptr.toNat + 1 :=
    kptr_succ_toNat (kernel_length_of_valid h.valid) (by omega)
  have hlast : s.rome.kptr.toNat + 1 = s.cfg.kernelImage.length ↔ bytes = [] := by
    rw [← List.length_eq_zero_iff]; omega
  refine ⟨h.phase, h.valid, ?serving, ?remaining, by dsimp only [romeAfterData]; omega, ?next⟩
  case serving => dsimp only [romeAfterData]; rw [hr]; split <;> rfl
  case remaining =>
    dsimp only [romeAfterData]
    rw [hsucc, ← List.drop_drop, h.remaining]; rfl
  case next =>
    dsimp only [romeAfterData]
    rw [hr]
    simp only [hlast]
    split <;> simp [romeAfterStatus]

end

/-- A correct bootloader's loop reads exactly the bytes that remain, and leaves ROME in `COMPLETE`
(47_rom_emulator.md R337). -/
theorem Streaming.loop {bytes : List Byte} {rest : List Event} : ∀ {s : State}, Streaming s bytes →
    s.inbox = bootloaderReads s.cfg bytes.length ++ rest →
    ∃ t, readsOf (2 * bytes.length + 1) s = (bootloaderSees bytes, some t)
      ∧ t = { s with rome := t.rome, dataBus := t.dataBus, inbox := rest }
      ∧ t.rome.rst = .complete ∧ t.rome.started = s.rome.started
      ∧ t.rome.kptr.toNat = s.cfg.kernelImage.length := by
  induction bytes with
  | nil =>
    intro s h hin
    refine ⟨_, readsOf_succ 0 (h.status_step hin), rfl, rfl, rfl, ?_⟩
    simpa using h.length_eq
  | cons b bytes ih =>
    intro s h hin
    have hstatus := h.status_step (rest := readAt s.cfg.kdataAddr :: (bootloaderReads s.cfg bytes.length ++ rest)) hin
    have hloading := h.after_status (some 0x01)
      (readAt s.cfg.kdataAddr :: (bootloaderReads s.cfg bytes.length ++ rest))
    simp only [List.cons_ne_nil, if_false] at hstatus hloading
    have hdata := hloading.data_step rfl
    have hnext := hloading.after_data rfl (some b) (bootloaderReads s.cfg bytes.length ++ rest)
    obtain ⟨t, hreads, hframe, hrst, hstarted, hkptr⟩ := ih hnext rfl
    refine ⟨t, ?_, hframe, hrst, hstarted, hkptr⟩
    calc readsOf (2 * (b :: bytes).length + 1) s
        = readsOf (2 * bytes.length + 1 + 1 + 1) s := by rw [List.length_cons]; rfl
      _ = (bootloaderSees (b :: bytes), some t) := by
        rw [readsOf_succ _ hstatus, readsOf_succ _ hdata, hreads]; rfl

/-! ### From power-on to the hand-off -/

/-- `StartBoot` and `ReleaseReset` lead from power-on to the loop (47_rom_emulator.md R322, R323). -/
theorem boot_reaches_loop {p : Params} (hv : Params.valid p = true) (epoch draws : Nat) (events : List Event) :
    ∃ u v, step (State.powerOn p epoch (.startBoot :: .releaseReset :: events) draws) = .next u ∧ step u = .next v
      ∧ u.dataBus = none ∧ v.dataBus = none ∧ Streaming v p.kernelImage ∧ v.rome.started = true
      ∧ v = { State.powerOn p epoch events draws with rome := v.rome, out := ⟨false, false, true⟩ } := by
  have hstart := ((bootSequencerSteps (State.powerOn p epoch (.startBoot :: .releaseReset :: events) draws)).1
    rfl rfl rfl rfl).1 hv
  have hrelease := fun u => (bootSequencerSteps u).2.1
  refine ⟨_, _, hstart, hrelease _ rfl rfl, rfl, rfl, ⟨rfl, hv, rfl, rfl, Nat.zero_le _, ?_⟩, rfl, rfl⟩
  show romeAfterStatus p .bootActive = _
  rw [romeAfterStatus, if_pos rfl]
  simp only [List.length_eq_zero_iff]

/-- Settles O59: two steps reach the loop, the loop streams the image, and the last step hands over. -/
theorem bootStreamsKernelThenHandsOff : Obligations.BootStreamsKernelThenHandsOff := by
  rintro p epoch draws s rest hv rfl
  obtain ⟨u, v, hu, hstep, hubus, hvbus, hstream, hstarted, hframe⟩ :=
    boot_reaches_loop hv epoch draws (bootloaderReads p p.kernelImage.length ++ .handOff :: rest)
  have hcfg : v.cfg = p := by rw [hframe]; rfl
  have hinbox : v.inbox = bootloaderReads v.cfg p.kernelImage.length ++ .handOff :: rest := by rw [hcfg, hframe]; rfl
  obtain ⟨t, hreads, htframe, hrst, hstarted', hkptr⟩ := hstream.loop hinbox
  have hhandOff := (bootSequencerSteps t).2.2 (State.nextEvent_of_inbox (by rw [htframe]))
    (by rw [htframe, hframe]; rfl) hrst
  refine ⟨?reads, { t.popEvent with
    phase := .normal
    rome := { t.rome with rst := .inactive }
    out := { t.out with clkFast := true, bank := false } },
    ?after, rfl, rfl, hstarted'.trans hstarted, by rw [← hcfg]; exact hkptr, ?out, ?frame⟩
  case reads =>
    rw [readsOf_succ _ hu, readsOf_succ _ hstep, hreads, hubus, hvbus]
  case after =>
    rw [after_eq_readsOf, readsOf_succ _ hu, readsOf_succ _ hstep, readsOf_add 1 hreads, readsOf_succ 0 hhandOff]
    rfl
  case out => rw [htframe, hframe]
  case frame =>
    rw [State.popEvent_of_inbox (by rw [htframe]), htframe, hframe]
    rfl

end Sys2Proof.Machine
end

section
/-! PROOFS. The steps of Core 1, the DMA engine and the external sources, one by one (45_dma_icq.md sections 1 to 3,
46_irq_controller.md section 1). -/

open Sys2Proof Sys2Proof.Machine

namespace Sys2Proof.Machine

/-- Taking an event does not change which events are enabled. -/
theorem enabled_popEvent (s : State) (e : Event) : Event.enabled s.popEvent e = Event.enabled s e := by
  cases e <;> simp [Event.enabled]

/-! ### Dispatch -/

section
variable {s : State} {e : CopyCmd}

theorem State.processCopy_of_badStart
    (h : 0x40000 ≤ (s.cursor e.srcIdx).current.toNat ∨ 0x40000 ≤ (s.cursor e.dstIdx).current.toNat) :
    s.processCopy e = s.raise causeMemoryError := by
  rcases s.processCopy_cases e with ⟨-, hp⟩ | ⟨hs, -⟩ | ⟨hs, -⟩
  · exact hp
  · obtain ⟨_, _⟩ := (copyStartsValid_iff ..).mp hs; omega
  · obtain ⟨_, _⟩ := (copyStartsValid_iff ..).mp hs; omega

theorem State.processCopy_of_badBounds
    (hs : (s.cursor e.srcIdx).current.toNat < 0x40000 ∧ (s.cursor e.dstIdx).current.toNat < 0x40000)
    (h : ¬ (0 < e.count.toNat ∧ s.dma.active = false ∧ (s.cursor e.srcIdx).current.toNat + e.count.toNat ≤ 0x40000
      ∧ (s.cursor e.dstIdx).current.toNat + e.count.toNat ≤ 0x40000)) :
    s.processCopy e = s.raise causeDmaError := by
  rcases s.processCopy_cases e with ⟨hns, -⟩ | ⟨-, -, hp⟩ | ⟨-, hb, -⟩
  · exact absurd ((copyStartsValid_iff ..).mpr hs) hns
  · exact hp
  · exact absurd ((copyBoundsValid_iff ..).mp hb) h

theorem State.processCopy_of_valid
    (h : 0 < e.count.toNat ∧ s.dma.active = false ∧ (s.cursor e.srcIdx).current.toNat + e.count.toNat ≤ 0x40000
      ∧ (s.cursor e.dstIdx).current.toNat + e.count.toNat ≤ 0x40000) :
    s.processCopy e = s.startCopy (s.cursor e.srcIdx).current (s.cursor e.dstIdx).current e.count := by
  rcases s.processCopy_cases e with ⟨hns, -⟩ | ⟨-, hnb, -⟩ | ⟨-, -, hp⟩
  · refine absurd ((copyStartsValid_iff ..).mpr ?_) hns; omega
  · exact absurd ((copyBoundsValid_iff ..).mpr h) hnb
  · exact hp

/-- Where the queue holds a record, `Dispatch` removes and processes it. -/
theorem step_of_dispatch {rest : List CopyCmd} (he : s.nextEvent = .dispatch) (hq : s.icq = e :: rest) :
    step s = .next (({ s.popEvent with icq := rest } : State).processCopy e) := by
  rw [step_dispatch he (by simp [enabled_popEvent, enabled_dispatch_iff, hq]), State.dispatchStep, State.popEvent_icq, hq]

/-- A dispatch that meets the preconditions starts the copy (45_dma_icq.md R265, R267). -/
theorem step_of_dispatchStart {rest : List CopyCmd} (he : s.nextEvent = .dispatch) (hq : s.icq = e :: rest)
    (h : 0 < e.count.toNat ∧ s.dma.active = false ∧ (s.cursor e.srcIdx).current.toNat + e.count.toNat ≤ 0x40000
      ∧ (s.cursor e.dstIdx).current.toNat + e.count.toNat ≤ 0x40000) :
    step s = .next (({ s.popEvent with icq := rest } : State).startCopy (s.cursor e.srcIdx).current
      (s.cursor e.dstIdx).current e.count) := by
  have hcur : ∀ j, ({ s.popEvent with icq := rest } : State).cursor j = s.cursor j := s.popEvent_cursor
  rw [step_of_dispatch he hq, State.processCopy_of_valid (by rwa [hcur, hcur, State.popEvent_dma]), hcur, hcur]

end

/-- What a dispatch that signals an error leaves. -/
theorem dispatchError_frame {s t : State} {rest : List CopyCmd} {bits : Half}
    (ht : t = ({ s.popEvent with icq := rest } : State).raise bits) :
    t.irq.cause = s.irq.cause ||| bits ∧ t.irq = { s.irq with cause := t.irq.cause, line := t.irq.pending }
      ∧ t = { s.popEvent with icq := rest, st := { s.st with memerr := true }, irq := t.irq } := by
  subst ht
  rw [← s.popEvent_irq, ← s.popEvent_st]
  exact ⟨rfl, rfl, rfl⟩

/-- The bytes of a range of the arena, as `Start` takes them into `snap` (45_dma_icq.md R267). -/
def State.arenaBytes (s : State) (base n : Nat) : List Byte := (List.range n).map fun k => s.arenaByte (base + k)

@[simp] theorem State.arenaBytes_length (s : State) (base n : Nat) : (s.arenaBytes base n).length = n := by
  simp [State.arenaBytes]

theorem State.arenaBytes_getElem? (s : State) (base : Nat) {n k : Nat} (h : k < n) :
    (s.arenaBytes base n)[k]? = some (s.arenaByte (base + k)) := by
  simp [State.arenaBytes, h]

theorem State.startCopy_snap (s : State) (src dst : Addr) (n : Half) :
    (s.startCopy src dst n).dma.snap = s.arenaBytes src.toNat n.toNat := rfl

/-- Settles O48: the dispatch processes its record, in one of the three ways. -/
theorem dispatchStartsOrSignals : Obligations.DispatchStartsOrSignals := by
  intro s e rest he hq
  have hcur : ∀ j, ({ s.popEvent with icq := rest } : State).cursor j = s.cursor j := s.popEvent_cursor
  have hzero : e.count = 0 ↔ ¬ 0 < e.count.toNat := by
    rw [← BitVec.toNat_inj]; simp
  split_ifs with hstart hbounds
  · refine ⟨_, step_of_dispatch he hq, dispatchError_frame ?_⟩
    exact State.processCopy_of_badStart (by rwa [hcur, hcur])
  · refine ⟨_, step_of_dispatch he hq, dispatchError_frame ?_⟩
    refine State.processCopy_of_badBounds (by rw [hcur, hcur]; omega) ?_
    rw [hcur, hcur, State.popEvent_dma]
    rintro ⟨hcount, hidle, hsrc, hdst⟩
    rcases hbounds with h | h | h | h
    · exact hzero.mp h hcount
    · rw [hidle] at h; cases h
    · omega
    · omega
  · simp only [not_or, hzero, Bool.not_eq_true, not_lt] at hbounds
    obtain ⟨hcount, hvalid⟩ := hbounds
    refine ⟨_, step_of_dispatchStart he hq ⟨Nat.lt_of_not_le hcount, hvalid⟩, rfl, rfl, rfl, rfl, rfl,
      by simp [State.startCopy_snap], fun k hk => ?_, ?_⟩
    · rw [State.startCopy_snap, State.arenaBytes_getElem? _ _ hk]
      exact congrArg some (s.popEvent_arenaByte _)
    · rw [← s.popEvent_st]; rfl

/-! ### The running copy -/

/-- Settles O49: the byte of `snap` at the offset is the one that the step delivers. -/
theorem transferMovesOneByte : Obligations.TransferMovesOneByte := by
  intro s k v he hact hk hnew hv
  have hen : Event.enabled s.popEvent (.transfer k) = true := by
    rw [enabled_popEvent, enabled_transfer_iff]
    exact ⟨hact, hk, hnew⟩
  refine ⟨_, step_transfer he hen, ?_, fun a ha => ?_, fun j => ?_, ?_, rfl⟩
  · rw [State.transferStep_arenaByte, State.popEvent_dma, if_pos rfl, List.getD_eq_getElem?_getD, hv]; rfl
  · rw [State.transferStep_arenaByte, State.popEvent_dma, if_neg ha, State.popEvent_arenaByte]
  · rw [State.transferStep_dma, State.popEvent_dma, mem_insertOffset]
  · rw [State.transferStep_dma, State.popEvent_dma]

/-- Settles O50: the step runs where it is enabled, and only takes the event where it is not. -/
theorem completeEndsCopyAndRaises : Obligations.CompleteEndsCopyAndRaises := by
  intro s he
  have hen : Event.enabled s.popEvent .complete = true
      ↔ s.dma.active = true ∧ ∀ k, k < s.dma.count.toNat → k ∈ s.dma.done := by
    rw [enabled_popEvent, enabled_complete_iff]
  refine ⟨fun h => ⟨_, step_complete he (hen.mpr h), ?_, ?_, ?_⟩, fun h => step_of_disabled ?_⟩
  · rw [← s.popEvent_irq]; rfl
  · rw [← s.popEvent_irq]; rfl
  · rw [← s.popEvent_dma, ← s.popEvent_st]; rfl
  · rw [he, Bool.eq_false_iff]; exact fun hc => h (hen.mp hc)

/-! ### External raises -/

/-- Settles O51: the event's bits are the cause bits 15:4 (46_irq_controller.md R296). -/
theorem externalRaiseSetsHighCauses : Obligations.ExternalRaiseSetsHighCauses := by
  intro s b he
  have hcause : (s.popEvent.extRaiseStep b).irq.cause = s.irq.cause ||| (b.setWidth 16 <<< 4) := by
    rw [← s.popEvent_irq]; rfl
  refine ⟨_, step_extRaise he, fun j hj => ?_, fun j hj => ?_, ?_, rfl⟩
  · rw [hcause, BitVec.getLsbD_or]; simp [hj]
  · rw [hcause, BitVec.getLsbD_or]; simp [show j + 4 < 16 by omega]
  · rw [← s.popEvent_irq]; rfl

end Sys2Proof.Machine
end

section
/-! PROOFS. The copy law (45_dma_icq.md R268, R271). `CopyOf bytes dst s` says that a copy of `bytes` to `dst` runs in `s`
and that what it has transferred stands there; every step keeps it that neither ends the copy nor races with it. -/

open Sys2Proof Sys2Proof.Machine

namespace Sys2Proof.Machine

/-! ### What stands at the destination -/

/-- What an instruction does to the snapshot: a store to a source byte still to be transferred may replace that byte
(45_dma_icq.md R268). -/
theorem InstrEffect.snap {s t : State} {i : Instr} (h : InstrEffect s i t) :
    t.dma.snap = s.dma.snap
      ∨ ∃ w d, i = .wrDataPort w d ∧ addressValid (s.effectiveAddress w) = true
        ∧ s.sourcePending (s.effectiveAddress w) = true
        ∧ t.dma.snap = s.dma.snap.set (s.effectiveAddress w - s.dma.src.toNat) d := by
  cases h with
  | writesArena w d hv =>
    rw [← State.effectiveAddress_eq] at hv ⊢
    obtain ⟨hquiet, hrace⟩ := State.hostArenaWrite_dma s (s.effectiveAddress w) d
    rw [State.release_dma, State.autoStep_dma]
    cases hp : s.sourcePending (s.effectiveAddress w) with
    | false => exact .inl (by rw [(hquiet hp).1])
    | true =>
      rcases (hrace hp).2 with hdma | hdma <;> rw [hdma]
      · exact .inl rfl
      · exact .inr ⟨w, d, rfl, (addressValid_iff _).mpr hv, hp, rfl⟩
  | _ => exact .inl (by simp)

/-- `copyDelivered` speaks of the copy and the arena alone. -/
theorem copyDelivered_congr {s t : State} (h : copyDelivered s) (hdma : t.dma = s.dma) (harena : t.arena = s.arena)
    (hepoch : t.epoch = s.epoch) : copyDelivered t := by
  intro hact k hk
  rw [hdma] at hact hk ⊢
  rw [State.arenaByte_congr harena hepoch]
  exact h hact k hk

/-- A store outside the destination leaves what stands there, and its race touches no byte that has been transferred. -/
theorem InstrEffect.copyDelivered {s t : State} {i : Instr} (h : InstrEffect s i t) (hd : copyDelivered s)
    (hdone : s.dma.active = true → ∀ k ∈ s.dma.done, k < s.dma.count.toNat)
    (hstore : ∀ w d, i = .wrDataPort w d → addressValid (s.effectiveAddress w) = true → s.dma.active = true →
      ¬ inRange s.dma.dst.toNat s.dma.count.toNat (s.effectiveAddress w)) : copyDelivered t := by
  intro hact k hk
  rw [h.dma] at hact hk
  have hdst : t.dma.dst = s.dma.dst := by rw [h.dma]
  have hbyte : t.arenaByte (s.dma.dst.toNat + k) = s.arenaByte (s.dma.dst.toNat + k) := by
    refine (h.arenaByte _).resolve_right ?_
    rintro ⟨w, d, hwr, ha, hv⟩
    have hlt := hdone hact k hk
    exact hstore w d hwr (by rwa [← ha]) hact (ha ▸ ⟨Nat.le_add_right .., Nat.add_lt_add_left hlt _⟩)
  rw [hdst, hbyte, ← hd hact k hk]
  rcases h.snap with hsnap | ⟨w, d, -, -, hp, hsnap⟩ <;> rw [hsnap]
  obtain ⟨-, -, -, hnew⟩ := (State.sourcePending_iff ..).mp hp
  exact List.getElem?_set_ne fun heq => hnew (by rwa [heq])

/-- A transfer puts its byte of the snapshot at its place. -/
theorem State.transferStep_copyDelivered {s : State} {k : Nat} (hd : copyDelivered s) (hk : k < s.dma.snap.length) :
    copyDelivered (s.transferStep k) := by
  intro hact j hj
  rw [State.transferStep_dma] at hj ⊢
  rw [State.transferStep_arenaByte]
  by_cases hjk : j = k
  · rw [if_pos (by rw [hjk]), List.getD_eq_getElem?_getD, hjk, List.getElem?_eq_getElem hk]; rfl
  · rw [if_neg (by dsimp only; omega)]
    exact hd hact j (((mem_insertOffset k j _).mp hj).resolve_left hjk)

/-- Every step keeps what the copy has transferred at its destination, but for a host write there. -/
theorem StepEffect.copyDelivered {s t : State} (h : StepEffect s t) (hd : copyDelivered s)
    (hlength : s.dma.active = true → s.dma.snap.length = s.dma.count.toNat)
    (hdone : s.dma.active = true → ∀ k ∈ s.dma.done, k < s.dma.count.toNat)
    (hstore : ∀ a, nextStoresAt s a → s.dma.active = true → ¬ inRange s.dma.dst.toNat s.dma.count.toNat a) :
    copyDelivered t := by
  have hpop : Machine.copyDelivered s.popEvent :=
    copyDelivered_congr hd s.popEvent_dma s.popEvent_arena s.popEvent_epoch
  cases h with
  | reset => exact nofun
  | complete => exact nofun
  | dispatchStart => exact fun _ => nofun
  | cycle x i hx hi hin h =>
    refine h.copyDelivered hpop (by rwa [State.popEvent_dma]) fun w d hwr hv => ?_
    rw [State.popEvent_effectiveAddress] at hv ⊢
    rw [State.popEvent_dma]
    exact hstore _ ⟨x, w, d, hx, hi.trans hwr, rfl, hv⟩
  | transfer k he hact hk =>
    exact State.transferStep_copyDelivered hpop (by rw [State.popEvent_dma, hlength hact]; exact hk)
  | _ => exact copyDelivered_congr hpop (by simp) (by simp) (by simp)

/-- The snapshot of a running copy changes only by a store to a source byte still to be transferred. -/
theorem StepEffect.snap {s t : State} (h : StepEffect s t) (hr : ¬ nextIsReset s) (hact : s.dma.active = true)
    (hquiet : ∀ a, nextStoresAt s a → s.sourcePending a = false) : t.dma.snap = s.dma.snap := by
  cases h with
  | reset hreset => exact absurd hreset hr
  | dispatchStart e rest he hq hidle => rw [hact] at hidle; cases hidle
  | cycle x i hx hi hin h =>
    rcases h.snap with hsnap | ⟨w, d, hwr, hv, hp, -⟩
    · rw [hsnap, State.popEvent_dma]
    · rw [State.popEvent_effectiveAddress] at hv hp
      have hp' : s.sourcePending (s.effectiveAddress w) = true := by
        rw [← hp, State.sourcePending, State.sourcePending, State.popEvent_dma]
      rw [hquiet _ ⟨x, w, d, hx, hi.trans hwr, rfl, hv⟩] at hp'
      cases hp'
  | _ => simp

/-! ### A copy of given bytes -/

/-- A copy of `bytes` to `dst` runs, and what it has transferred stands there. -/
structure CopyOf (bytes : List Byte) (dst : Nat) (s : State) : Prop where
  active : s.dma.active = true
  dst_eq : s.dma.dst.toNat = dst
  count_eq : s.dma.count.toNat = bytes.length
  snap_eq : s.dma.snap = bytes
  doneBounded : ∀ k ∈ s.dma.done, k < bytes.length
  delivered : copyDelivered s

/-- A copy starts as a copy of the source bytes of that moment (45_dma_icq.md R267). -/
theorem CopyOf.startCopy (s : State) (src dst : Addr) (n : Half) :
    CopyOf (s.arenaBytes src.toNat n.toNat) dst.toNat (s.startCopy src dst n) :=
  ⟨rfl, rfl, by simp [State.startCopy_dma], rfl, nofun, fun _ => nofun⟩

section
variable {bytes : List Byte} {dst : Nat} {s t : State}

/-- Offering an event changes nothing about the copy. -/
theorem CopyOf.offer (h : CopyOf bytes dst s) (e : Event) : CopyOf bytes dst (s.offer e) :=
  ⟨h.active, h.dst_eq, h.count_eq, h.snap_eq, h.doneBounded, h.delivered⟩

/-- A step goes on with the copy that is no reset, no completion, and no store into its destination or to a source byte
still to be transferred. -/
theorem CopyOf.step (h : CopyOf bytes dst s) (hstep : StepEffect s t) (hr : ¬ nextIsReset s)
    (hc : ¬ (s.nextEvent = .complete ∧ Event.enabled s .complete = true))
    (hquiet : ∀ a, nextStoresAt s a → s.sourcePending a = false ∧ ¬ inRange dst bytes.length a) :
    CopyOf bytes dst t := by
  rcases hstep.runningCopy hr h.active with ⟨hact, -, hdst, hcount, hdone⟩ | ⟨he, hall, -⟩
  · refine ⟨hact, hdst ▸ h.dst_eq, hcount ▸ h.count_eq, ?snap, ?bounded, ?delivered⟩
    case snap => exact (hstep.snap hr h.active fun a ha => (hquiet a ha).1).trans h.snap_eq
    case bounded =>
      rcases hdone with hdone | ⟨k, -, hk, hdone⟩ <;> rw [hdone]
      · exact h.doneBounded
      · intro j hj
        rcases (mem_insertOffset k j _).mp hj with rfl | hj
        · exact h.count_eq ▸ hk
        · exact h.doneBounded j hj
    case delivered =>
      refine hstep.copyDelivered h.delivered (fun _ => h.snap_eq ▸ h.count_eq.symm)
        (fun _ => h.count_eq ▸ h.doneBounded) fun a ha _ => ?_
      rw [h.dst_eq, h.count_eq]
      exact (hquiet a ha).2
  · exact absurd ⟨he, (enabled_complete_iff s).mpr ⟨h.active, hall⟩⟩ hc

/-- An arena byte outside the destination changes only where the host stores. -/
theorem CopyOf.arenaByte (h : CopyOf bytes dst s) (hstep : StepEffect s t) (hr : ¬ nextIsReset s) {a : Nat}
    (ha : ¬ inRange dst bytes.length a) (hns : ¬ nextStoresAt s a) : t.arenaByte a = s.arenaByte a := by
  rcases hstep.arenaByte hr a with hsame | ⟨k, -, hk, -, rfl⟩ | hstore
  · exact hsame
  · rw [h.count_eq] at hk
    rw [h.dst_eq] at ha
    exact absurd ⟨Nat.le_add_right .., Nat.add_lt_add_left hk _⟩ ha
  · exact absurd hstore hns

/-- Where every offset has been transferred, the destination holds the bytes. -/
theorem CopyOf.getElem? (h : CopyOf bytes dst s) (hall : ∀ k, k < bytes.length → k ∈ s.dma.done) {k : Nat}
    (hk : k < bytes.length) : bytes[k]? = some (s.arenaByte (dst + k)) := by
  rw [← h.snap_eq, ← h.dst_eq]
  exact h.delivered h.active k (hall k hk)

end

/-! ### Back to back -/

theorem after_succ {s t : State} (k : Nat) (h : step s = .next t) : after (k + 1) s = after k t := by
  rw [after, h]

/-- A transfer is no reset and stores no host byte. -/
theorem quiet_of_transfer {s : State} {k : Nat} (he : s.nextEvent = .transfer k) :
    ¬ nextIsReset s ∧ ∀ a, ¬ nextStoresAt s a := by
  have hcyc : ∀ p overrun, s.nextEvent ≠ .busCycle p overrun := by rw [he]; exact nofun
  refine ⟨not_nextIsReset_of_noCycle (by rw [he]; exact nofun) hcyc, ?_⟩
  rintro a ⟨x, w, d, ⟨p, overrun, hev, -⟩, -⟩
  exact hcyc p overrun hev

/-- `t` is what transfers of the offsets `order` leave of a copy that runs in `s`. -/
structure AfterTransfers (bytes : List Byte) (dst : Nat) (order : List Nat) (rest : List Event) (s t : State) :
    Prop where
  runs : ∀ m, after (order.length + m) s = after m t
  copy : CopyOf bytes dst t
  frame : t = { s with arena := t.arena, dma := t.dma, dataBus := t.dataBus, inbox := rest }
  mem_done : ∀ j, j ∈ t.dma.done ↔ j ∈ order ∨ j ∈ s.dma.done
  arenaByte : ∀ a, ¬ inRange dst bytes.length a → t.arenaByte a = s.arenaByte a

/-- The transfers of distinct offsets, none of them transferred, in any order. -/
theorem CopyOf.transfers {bytes : List Byte} {dst : Nat} {rest : List Event} (order : List Nat) {s : State}
    (h : CopyOf bytes dst s) (hnodup : order.Nodup) (hnew : ∀ k ∈ order, k < bytes.length ∧ k ∉ s.dma.done)
    (hin : s.inbox = order.map Event.transfer ++ rest) : ∃ t, AfterTransfers bytes dst order rest s t := by
  induction order generalizing s with
  | nil =>
    obtain rfl : s.inbox = rest := hin
    exact ⟨s, fun m => by rw [List.length_nil, Nat.zero_add], h, rfl, by simp, fun _ _ => rfl⟩
  | cons k order ih =>
    obtain ⟨hk, hnodup⟩ := List.nodup_cons.mp hnodup
    obtain ⟨⟨hlt, hnotDone⟩, hnew⟩ := List.forall_mem_cons.mp hnew
    have he : s.nextEvent = .transfer k := State.nextEvent_of_inbox hin
    obtain ⟨hr, hns⟩ := quiet_of_transfer he
    have hstep : Machine.step s = .next (s.popEvent.transferStep k) := by
      refine step_transfer he ?_
      rw [enabled_popEvent, enabled_transfer_iff]
      exact ⟨h.active, h.count_eq ▸ hlt, hnotDone⟩
    have heff := step_effect hstep
    have hdone : ∀ j, j ∈ (s.popEvent.transferStep k).dma.done ↔ j = k ∨ j ∈ s.dma.done := by
      intro j; rw [State.transferStep_dma, State.popEvent_dma, mem_insertOffset]
    have hcopy : CopyOf bytes dst (s.popEvent.transferStep k) :=
      h.step heff hr (by rw [he]; exact nofun) fun a ha => absurd ha (hns a)
    obtain ⟨t, ht⟩ := ih hcopy hnodup
      (fun j hj => ⟨(hnew j hj).1, fun hin => ((hdone j).mp hin).elim (fun hjk => hk (hjk ▸ hj)) (hnew j hj).2⟩)
      (by rw [State.popEvent_of_inbox hin]; rfl)
    refine ⟨t, fun m => ?_, ht.copy, ?_, fun j => ?_, fun a ha => ?_⟩
    · rw [List.length_cons, Nat.succ_add, after_succ _ hstep, ht.runs]
    · rw [ht.frame, State.popEvent_of_inbox hin]; rfl
    · rw [ht.mem_done, hdone, List.mem_cons]; tauto
    · rw [ht.arenaByte a ha, h.arenaByte heff hr ha (hns a)]

/-- Taking an event and a record off the queue leaves the arena. -/
theorem State.arenaBytes_dispatched (s : State) (queue : List CopyCmd) :
    ({ s.popEvent with icq := queue } : State).arenaBytes = s.arenaBytes := by
  funext base n
  exact List.map_congr_left fun k _ => s.popEvent_arenaByte _

/-- From the dispatch of one record to its completion, with nothing between but the transfers. -/
theorem copy_backToBack {s : State} {e : CopyCmd} {queue : List CopyCmd} {order : List Nat} {rest : List Event}
    (hq : s.icq = e :: queue)
    (hvalid : 0 < e.count.toNat ∧ s.dma.active = false
      ∧ (s.cursor e.srcIdx).current.toNat + e.count.toNat ≤ 0x40000
      ∧ (s.cursor e.dstIdx).current.toNat + e.count.toNat ≤ 0x40000)
    (horder : order.Perm (List.range e.count.toNat))
    (hin : s.inbox = .dispatch :: (order.map Event.transfer ++ .complete :: rest)) :
    ∃ u, after (e.count.toNat + 2) s = some u.popEvent.completeStep ∧ u.inbox = .complete :: rest
      ∧ CopyOf (s.arenaBytes (s.cursor e.srcIdx).current.toNat e.count.toNat) (s.cursor e.dstIdx).current.toNat u
      ∧ (∀ k, k < e.count.toNat → k ∈ u.dma.done)
      ∧ u = { s with
          icq := queue, st := { s.st with dmaActive := true }, inbox := .complete :: rest
          arena := u.arena, dma := u.dma, dataBus := u.dataBus }
      ∧ ∀ a, ¬ inRange (s.cursor e.dstIdx).current.toNat e.count.toNat a → u.arenaByte a = s.arenaByte a := by
  have hpop := State.popEvent_of_inbox hin
  have hstart := step_of_dispatchStart (State.nextEvent_of_inbox hin) hq hvalid
  have hcopy := CopyOf.startCopy { s.popEvent with icq := queue } (s.cursor e.srcIdx).current
    (s.cursor e.dstIdx).current e.count
  have hlength : order.length = e.count.toNat := by rw [horder.length_eq, List.length_range]
  have hmem : ∀ k, k ∈ order ↔ k < e.count.toNat := fun k => horder.mem_iff.trans List.mem_range
  obtain ⟨u, hu⟩ := hcopy.transfers order (horder.nodup_iff.mpr List.nodup_range)
    (fun k hk => ⟨by rwa [State.arenaBytes_length, ← hmem], nofun⟩) (by rw [hpop]; rfl)
  have hinbox : u.inbox = .complete :: rest := by rw [hu.frame]
  have hall : ∀ k, k < e.count.toNat → k ∈ u.dma.done := fun k hk => (hu.mem_done k).mpr (.inl ((hmem k).mpr hk))
  have hcomplete : step u = .next u.popEvent.completeStep := by
    refine step_complete (State.nextEvent_of_inbox hinbox) ?_
    rw [enabled_popEvent, enabled_complete_iff]
    exact ⟨hu.copy.active, fun k hk => hall k (by rwa [hu.copy.count_eq, State.arenaBytes_length] at hk)⟩
  refine ⟨u, ?_, hinbox, s.arenaBytes_dispatched queue ▸ hu.copy, hall, ?_, fun a ha => ?_⟩
  · rw [after_succ _ hstart, ← hlength, hu.runs, after_succ _ hcomplete]; rfl
  · rw [hu.frame, hpop]; rfl
  · rw [hu.arenaByte a (by rwa [State.arenaBytes_length])]
    exact s.popEvent_arenaByte a

/-! ### Interleaved -/

/-- Along the steps between the dispatch and the completion the copy goes on, and arena bytes that neither it nor the host
writes keep their value. -/
theorem copyOf_along {run : Nat → State} {ev : Nat → Event} {bytes : List Byte} {dst n m : Nat}
    (hrun : ∀ j, j ≤ n → step ((run j).offer (ev j)) = .next (run (j + 1))) (hfirst : CopyOf bytes dst (run 1))
    (hquiet : ∀ j, 0 < j → j < n → ¬ nextIsReset ((run j).offer (ev j))
      ∧ ¬ (ev j = .complete ∧ Event.enabled (run j) .complete = true)
      ∧ ∀ a, nextStoresAt ((run j).offer (ev j)) a →
        (run j).sourcePending a = false ∧ ¬ inRange dst bytes.length a)
    (hm : 1 ≤ m) (hmn : m ≤ n) :
    CopyOf bytes dst (run m) ∧ ∀ a, ¬ inRange dst bytes.length a →
      (∀ j, 0 < j → j < m → ¬ nextStoresAt ((run j).offer (ev j)) a) → (run m).arenaByte a = (run 1).arenaByte a := by
  induction m, hm using Nat.le_induction with
  | base => exact ⟨hfirst, fun _ _ _ => rfl⟩
  | succ j hj ih =>
    obtain ⟨hcopy, harena⟩ := ih (by omega)
    obtain ⟨hr, hc, hstores⟩ := hquiet j hj hmn
    have heff := step_effect (hrun j (by omega))
    have hoffer := hcopy.offer (ev j)
    refine ⟨hoffer.step heff hr hc hstores, fun a ha hns => ?_⟩
    calc (run (j + 1)).arenaByte a
        = ((run j).offer (ev j)).arenaByte a := hoffer.arenaByte heff hr ha (hns j hj (by omega))
      _ = (run 1).arenaByte a := harena a ha fun i hi hij => hns i hi (by omega)

/-- Settles O58: back to back by `copy_backToBack`, as a step by `StepEffect.copyDelivered`, interleaved by
`copyOf_along`. -/
theorem copyDeliversPreCopyBytes : Obligations.CopyDeliversPreCopyBytes := by
  refine ⟨?backToBack, ?step, ?interleaved⟩
  case backToBack =>
    rintro s e queue order rest _ _ hq hidle rfl rfl hcount hsrc hdst horder hin
    obtain ⟨u, hafter, hinbox, hcopy, hall, hframe, harena⟩ :=
      copy_backToBack hq ⟨hcount, hidle, hsrc, hdst⟩ horder hin
    refine ⟨_, hafter, fun k hk => ?_, fun a ha => ?_, ?_⟩
    · have hbyte := hcopy.getElem? (by rwa [State.arenaBytes_length]) (k := k) (by rwa [State.arenaBytes_length])
      rw [State.arenaBytes_getElem? _ _ hk] at hbyte
      exact (u.popEvent_arenaByte _).trans (Option.some.inj hbyte).symm
    · exact (u.popEvent_arenaByte a).trans (harena a fun ⟨_, _⟩ => by omega)
    · rw [State.popEvent_of_inbox hinbox, hframe]
      exact ⟨rfl, rfl, rfl, rfl, rfl, rfl, rfl⟩
  case step =>
    intro s t hinv hd hstep hstore
    exact (step_effect hstep).copyDelivered hd (fun hact => (hinv.copyInRange hact).2.2.2)
      (fun hact => (hinv.copyDone hact).2) hstore
  case interleaved =>
    rintro run ev n _ _ _ e queue hrun - he0 hq hidle rfl rfl rfl hcount hsrc hdst hquiet hen hcomplete
    have hn : 1 ≤ n := by
      refine Nat.one_le_iff_ne_zero.mpr fun h0 => ?_
      rw [h0, he0] at hen
      cases hen
    have hfirst : run 1 = _ := Host.Outcome.next.inj <| (hrun 0 (Nat.zero_le n)).symm.trans
      (step_of_dispatchStart he0 hq ⟨hcount, hidle, hsrc, hdst⟩)
    have hcopy1 : CopyOf ((run 0).arenaBytes ((run 0).cursor e.srcIdx).current.toNat e.count.toNat)
        ((run 0).cursor e.dstIdx).current.toNat (run 1) := by
      rw [hfirst]
      exact State.arenaBytes_dispatched ((run 0).offer (ev 0)) queue ▸ CopyOf.startCopy ..
    obtain ⟨hcopy, harena⟩ := copyOf_along hrun hcopy1 (by rwa [State.arenaBytes_length]) hn le_rfl
    rw [State.arenaBytes_length] at harena
    have hlast : run (n + 1) = ((run n).offer (ev n)).popEvent.completeStep :=
      Host.Outcome.next.inj <| (hrun n le_rfl).symm.trans (step_complete hen (by rwa [enabled_popEvent]))
    have hbyte : ∀ a, (run (n + 1)).arenaByte a = (run n).arenaByte a := fun a => by
      rw [hlast]; exact State.popEvent_arenaByte ((run n).offer (ev n)) a
    refine ⟨by rw [hlast]; rfl, by rw [hlast]; simp [Irq.setBits_spec, causeDmaComplete], fun k hk => ?_,
      fun a ha hns => ?_⟩
    · have hall := ((enabled_complete_iff _).mp hcomplete).2
      rw [hcopy.count_eq] at hall
      have hk' := hcopy.getElem? hall (k := k) (by rwa [State.arenaBytes_length])
      rw [State.arenaBytes_getElem? _ _ hk] at hk'
      exact (hbyte _).trans (Option.some.inj hk').symm
    · calc (run (n + 1)).arenaByte a
          = (run n).arenaByte a := hbyte a
        _ = (run 1).arenaByte a := harena a ha hns
        _ = (run 0).arenaByte a := by rw [hfirst]; exact State.popEvent_arenaByte ((run 0).offer (ev 0)) a

end Sys2Proof.Machine
end
